-- ==== Sys2Proof/Word.lean ====
section
/-!
DEFINITION. The byte of frames and codes (11.1, 11.5): the one thing of this block that the manual treats as bits. Every other quantity is a number with a stated range.
-/
namespace Sys2Proof

/-- One byte on the Control Port or the Yard Line. -/
abbrev Byte := BitVec 8

end Sys2Proof
end

