-- ==== Sys2Proof/Syntax.lean ====
section
/-!
DEFINITION. The commands of the block: one constructor per row of spec/opcode_table.json. A request's operands are the values of its arguments as its frame carries them (11.3), so a value that names nothing is an operand too and is answered as the rules say. A translator step has no operand: it takes the oldest entry of the Station Code Queue (R172).
-/
namespace Sys2Proof

/-- A command of the block (log 1, log 10). -/
inductive Instr where
  -- power and the part's own events
  | powerOn | resetnAssert | resetnRelease
  | tableCheckEnd (passed : Bool)
  | secondEvent
  | transitExpiry (handle : Nat)
  | idleExpiry (island : Nat)
  | dripExpiry (washLane : Nat)
  | callCheck | dutyMiss | releaseEndClose | dispatchScan | planSweepStep
  -- the Yard Line
  | pollSend
  | pollOutcome (received : List Byte)
  -- translator steps
  | digit | clear | arrive | level | gateDefect | depart
  | here | nozzleOut | endCode | fullCode | voidCode
  | ready | cycleOn | cycleDone | fault | entered | exited | faultClear
  | inCode | outCode | lanePostDefect | lanePostOk
  -- passages
  | laneMouthPassage (line : Nat)
  | laneEntryPassage (line : Nat)
  | laneExitPassage (line : Nat)
  | washEntryPassage (line : Nat)
  | washExitPassage (line : Nat)
  | unassignedLinePassage (line : Nat)
  -- transactions of the Control Port that are no well-formed request
  | requestWhileInHand (frame : List Byte)
  | malformedRequest (frame : List Byte)
  | answerRead (clocked : Nat)
  -- requests
  | status | more
  | laneDefine (lane kind capacity : Nat)
  | laneUndefine (lane : Nat)
  | islandDefine (island fuel : Nat)
  | islandUndefine (island : Nat)
  | washDefine (washLane : Nat)
  | washUndefine (washLane : Nat)
  | tank (fuel capacity low reserve : Nat)
  | stationDefine (address kind facility : Nat)
  | stationUndefine (address : Nat)
  | beams (line role facility : Nat)
  | times (callLead missGrace transitLimit idleTime dripTime horizon autoSwap autoBind : Nat)
  | layoutRead (kind number : Nat)
  | openYard | closeYard | yardClear
  | setClock (second day : Nat)
  | trimClock (amount : Int)
  | vehicleRead (fleet : Nat)
  | add (fleet fuel length tankSize interval age program barred : Nat)
  | remove (fleet : Nat)
  | update (fleet fuel length tankSize interval program barred : Nat)
  | washAgeSet (fleet age : Nat)
  | readNext
  | seek (fleet : Nat)
  | holdSet (handle hold : Nat)
  | holdClear (handle hold : Nat)
  | routeFlags (handle skipFuel skipWash : Nat)
  | locateLane (handle lane : Nat)
  | locateApron (handle : Nat)
  | locateRetire (handle : Nat)
  | retire (handle : Nat)
  | recordRead (handle : Nat)
  | recordFind (fleet : Nat)
  | recordScan (handle : Nat)
  | recall (handle service facility : Nat)
  | waitListRead
  | islandOpen (island : Nat)
  | islandClose (island : Nat)
  | islandConfirm (island ending quantity : Nat)
  | islandConfirmVoid (island : Nat)
  | islandRead (island : Nat)
  | tankDelivery (fuel quantity : Nat)
  | tankSet (fuel stock : Nat)
  | tankRead (fuel : Nat)
  | washOpen (washLane : Nat)
  | washClose (washLane : Nat)
  | washResetRestart (washLane : Nat)
  | washResetRelease (washLane : Nat)
  | washRead (washLane : Nat)
  | laneState (lane state : Nat)
  | move (handle lane : Nat)
  | beamDisable (line : Nat)
  | beamEnable (line : Nat)
  | laneRead (lane : Nat)
  | rosterLoad (day releaseEnd : Nat)
  | dutyAdd (number pullOut length fuelSet : Nat)
  | rosterArm | rosterClose | rosterClear
  | dutyBind (number handle : Nat)
  | dutyUnbind (number : Nat)
  | dutySwap (first second : Nat)
  | dutyCancel (number : Nat)
  | planBuild | rosterRead
  | dutyRead (slot : Nat)
  | stationRead (address : Nat)
  | attentionRead
  | attentionEnable (enables master : Nat)
  | undefinedCode
  | answerReady
  deriving DecidableEq, Repr

end Sys2Proof
end

