-- ==== Sys2Proof/WellFormed.lean ====
section
/-!
DEFINITION. The checks a command passes when its operands are values that the encodings of 11.3 can carry: one, two or three bytes, a signed byte, a beam line, or a transaction of the Control Port whose first byte is not 0x00 (R177). A command may be well formed and still be answered RANGE; exec gives every command its effect, well formed or not (log 10).
-/
namespace Sys2Proof

/-- A value of one byte (11.3). -/
def fits1 (n : Nat) : Bool := n < 256
/-- A value of two bytes (11.3). -/
def fits2 (n : Nat) : Bool := n < 65536
/-- A value of three bytes (11.3). -/
def fits3 (n : Nat) : Bool := n < 16777216
/-- The TRIM CLOCK amount: one byte, two's complement (11.3). -/
def fitsSigned (z : Int) : Bool := -128 ≤ z && z < 128
/-- One of the 48 beam lines (R6). -/
def isLine (n : Nat) : Bool := n < 48
/-- A transaction that is a request by its first byte (R177). -/
def isRequestFrame (bytes : List Byte) : Bool :=
  match bytes with
  | [] => false
  | b :: _ => b != 0

/-- The operands of the command are values the encodings admit. -/
def Instr.wellFormed : Instr → Bool
  | .powerOn | .resetnAssert | .resetnRelease | .tableCheckEnd _ | .secondEvent => true
  | .transitExpiry h => h < 128
  | .idleExpiry n => 1 ≤ n && n ≤ 6
  | .dripExpiry n => 1 ≤ n && n ≤ 3
  | .callCheck | .dutyMiss | .releaseEndClose | .dispatchScan | .planSweepStep => true
  | .pollSend | .pollOutcome _ => true
  | .digit | .clear | .arrive | .level | .gateDefect | .depart => true
  | .here | .nozzleOut | .endCode | .fullCode | .voidCode => true
  | .ready | .cycleOn | .cycleDone | .fault | .entered | .exited | .faultClear => true
  | .inCode | .outCode | .lanePostDefect | .lanePostOk => true
  | .laneMouthPassage l | .laneEntryPassage l | .laneExitPassage l => isLine l
  | .washEntryPassage l | .washExitPassage l | .unassignedLinePassage l => isLine l
  | .requestWhileInHand f | .malformedRequest f => isRequestFrame f
  | .answerRead n => 1 ≤ n
  | .status | .more => true
  | .laneDefine n k c => fits1 n && fits1 k && fits2 c
  | .laneUndefine n => fits1 n
  | .islandDefine n f => fits1 n && fits1 f
  | .islandUndefine n => fits1 n
  | .washDefine n | .washUndefine n => fits1 n
  | .tank f c l r => fits1 f && fits2 c && fits1 l && fits1 r
  | .stationDefine a k n => fits1 a && fits1 k && fits1 n
  | .stationUndefine a => fits1 a
  | .beams l r n => fits1 l && fits1 r && fits1 n
  | .times a b c d e f g h =>
    fits2 a && fits2 b && fits2 c && fits2 d && fits2 e && fits2 f && fits1 g && fits1 h
  | .layoutRead k n => fits1 k && fits1 n
  | .openYard | .closeYard | .yardClear => true
  | .setClock t d => fits3 t && fits2 d
  | .trimClock z => fitsSigned z
  | .vehicleRead n => fits2 n
  | .add n f l t i a p b =>
    fits2 n && fits1 f && fits1 l && fits2 t && fits1 i && fits1 a && fits1 p && fits1 b
  | .remove n => fits2 n
  | .update n f l t i p b =>
    fits2 n && fits1 f && fits1 l && fits2 t && fits1 i && fits1 p && fits1 b
  | .washAgeSet n a => fits2 n && fits1 a
  | .readNext => true
  | .seek n => fits2 n
  | .holdSet h x | .holdClear h x => fits1 h && fits1 x
  | .routeFlags h f w => fits1 h && fits1 f && fits1 w
  | .locateLane h n => fits1 h && fits1 n
  | .locateApron h | .locateRetire h | .retire h => fits1 h
  | .recordRead h | .recordScan h => fits1 h
  | .recordFind n => fits2 n
  | .recall h s n => fits1 h && fits1 s && fits1 n
  | .waitListRead => true
  | .islandOpen n | .islandClose n | .islandConfirmVoid n | .islandRead n => fits1 n
  | .islandConfirm n e q => fits1 n && fits1 e && e != 2 && fits2 q
  | .tankDelivery f q | .tankSet f q => fits1 f && fits2 q
  | .tankRead f => fits1 f
  | .washOpen n | .washClose n | .washResetRestart n | .washResetRelease n | .washRead n => fits1 n
  | .laneState n x => fits1 n && fits1 x
  | .move h n => fits1 h && fits1 n
  | .beamDisable l | .beamEnable l => fits1 l
  | .laneRead n => fits1 n
  | .rosterLoad d e => fits2 d && fits3 e
  | .dutyAdd n p c f => fits2 n && fits3 p && fits1 c && fits1 f
  | .rosterArm | .rosterClose | .rosterClear => true
  | .dutyBind n h => fits2 n && fits1 h
  | .dutyUnbind n | .dutyCancel n => fits2 n
  | .dutySwap a b => fits2 a && fits2 b
  | .planBuild | .rosterRead => true
  | .dutyRead x => fits1 x
  | .stationRead a => fits1 a
  | .attentionRead => true
  | .attentionEnable e m => fits2 e && fits1 m
  | .undefinedCode | .answerReady => true

end Sys2Proof
end

