-- ==== Sys2Proof/Decode.lean ====
section
/-!
DEFINITION. Request frames of the Control Port (11.1, 11.3): the command a frame spells, the tests of R179 on its form, and the frame of a command. spec/opcode_table.json gives no row any bits, so decodeTableWord answers none (log 24).
-/
namespace Sys2Proof

/-- The opcode table spells no command by bits (log 24). -/
def decodeTableWord (_nbits _w : Nat) : Option Instr := none

/-- The byte of a number, modulo 256. -/
def byte (n : Nat) : Byte := BitVec.ofNat 8 n

/-- A number of two bytes, most significant first (11.1). -/
def bytes2 (n : Nat) : List Byte := [byte (n / 256), byte n]
/-- A number of three bytes, most significant first (11.1). -/
def bytes3 (n : Nat) : List Byte := [byte (n / 65536), byte (n / 256), byte n]
/-- The number of two bytes. -/
def num2 (a b : Byte) : Nat := a.toNat * 256 + b.toNat
/-- The number of three bytes. -/
def num3 (a b c : Byte) : Nat := a.toNat * 65536 + b.toNat * 256 + c.toNat

/-- The sum of all bytes, modulo 256 (11.1). -/
def byteSum (bytes : List Byte) : Byte := bytes.foldl (· + ·) 0
/-- The byte that makes the sum of a frame 0 modulo 256 (11.1). -/
def checkByte (bytes : List Byte) : Byte := 0 - byteSum bytes
/-- Bytes closed by their check byte. -/
def withCheck (bytes : List Byte) : List Byte := bytes ++ [checkByte bytes]

/-- The argument length of each request code (11.3, R179 test 3); none for a code not in the table. -/
def argLength : Nat → Option Nat
  | 0x01 => some 0 | 0x02 => some 0
  | 0x10 => some 5 | 0x11 => some 3 | 0x12 => some 2 | 0x13 => some 5
  | 0x14 => some 4 | 0x15 => some 3 | 0x16 => some 14 | 0x17 => some 2
  | 0x18 => some 0 | 0x19 => some 0 | 0x1A => some 0 | 0x1B => some 5 | 0x1C => some 1
  | 0x20 => some 2 | 0x21 => some 10 | 0x22 => some 2 | 0x23 => some 9
  | 0x24 => some 3 | 0x25 => some 0 | 0x26 => some 2
  | 0x30 => some 2 | 0x31 => some 2 | 0x32 => some 3 | 0x33 => some 3
  | 0x34 => some 1 | 0x35 => some 1 | 0x36 => some 2 | 0x37 => some 1
  | 0x38 => some 3 | 0x39 => some 0
  | 0x40 => some 1 | 0x41 => some 1 | 0x42 => some 4 | 0x43 => some 1
  | 0x44 => some 3 | 0x45 => some 3 | 0x46 => some 1
  | 0x48 => some 1 | 0x49 => some 1 | 0x4A => some 2 | 0x4B => some 1
  | 0x50 => some 2 | 0x51 => some 2 | 0x52 => some 1 | 0x53 => some 1 | 0x54 => some 1
  | 0x60 => some 5 | 0x61 => some 7 | 0x62 => some 0 | 0x63 => some 0 | 0x64 => some 0
  | 0x65 => some 3 | 0x66 => some 2 | 0x67 => some 4 | 0x68 => some 2 | 0x69 => some 0
  | 0x6A => some 0 | 0x6B => some 1
  | 0x70 => some 1
  | 0x78 => some 0 | 0x79 => some 3
  | _ => none

/-- The command of a request code with its arguments (11.3); none where a mode byte is not in its list, or the arguments do not fit the code. A value that 11.3 has sent as 0 is not tested: with UNDEFINE by 11.3's own word, the lane number of LOCATE with APRON or RETIRE and the quantity of ISLAND CONFIRM with VOID by the model's choice (log 31). -/
def decodeArgs (code : Nat) (args : List Byte) : Option Instr :=
  match code, args with
  | 0x01, [] => some .status
  | 0x02, [] => some .more
  | 0x10, [n, m, k, c1, c0] =>
    if m = 0 then some (.laneDefine n.toNat k.toNat (num2 c1 c0))
    else if m = 1 then some (.laneUndefine n.toNat) else none
  | 0x11, [n, m, f] =>
    if m = 0 then some (.islandDefine n.toNat f.toNat)
    else if m = 1 then some (.islandUndefine n.toNat) else none
  | 0x12, [n, m] =>
    if m = 0 then some (.washDefine n.toNat)
    else if m = 1 then some (.washUndefine n.toNat) else none
  | 0x13, [f, c1, c0, l, r] => some (.tank f.toNat (num2 c1 c0) l.toNat r.toNat)
  | 0x14, [a, m, k, n] =>
    if m = 0 then some (.stationDefine a.toNat k.toNat n.toNat)
    else if m = 1 then some (.stationUndefine a.toNat) else none
  | 0x15, [l, r, n] => some (.beams l.toNat r.toNat n.toNat)
  | 0x16, [a1, a0, b1, b0, c1, c0, d1, d0, e1, e0, f1, f0, g, h] =>
    some (.times (num2 a1 a0) (num2 b1 b0) (num2 c1 c0) (num2 d1 d0) (num2 e1 e0) (num2 f1 f0)
      g.toNat h.toNat)
  | 0x17, [k, n] => some (.layoutRead k.toNat n.toNat)
  | 0x18, [] => some .openYard
  | 0x19, [] => some .closeYard
  | 0x1A, [] => some .yardClear
  | 0x1B, [t2, t1, t0, d1, d0] => some (.setClock (num3 t2 t1 t0) (num2 d1 d0))
  | 0x1C, [z] => some (.trimClock z.toInt)
  | 0x20, [n1, n0] => some (.vehicleRead (num2 n1 n0))
  | 0x21, [n1, n0, f, l, t1, t0, i, a, p, b] =>
    some (.add (num2 n1 n0) f.toNat l.toNat (num2 t1 t0) i.toNat a.toNat p.toNat b.toNat)
  | 0x22, [n1, n0] => some (.remove (num2 n1 n0))
  | 0x23, [n1, n0, f, l, t1, t0, i, p, b] =>
    some (.update (num2 n1 n0) f.toNat l.toNat (num2 t1 t0) i.toNat p.toNat b.toNat)
  | 0x24, [n1, n0, a] => some (.washAgeSet (num2 n1 n0) a.toNat)
  | 0x25, [] => some .readNext
  | 0x26, [n1, n0] => some (.seek (num2 n1 n0))
  | 0x30, [h, x] => some (.holdSet h.toNat x.toNat)
  | 0x31, [h, x] => some (.holdClear h.toNat x.toNat)
  | 0x32, [h, f, w] => some (.routeFlags h.toNat f.toNat w.toNat)
  | 0x33, [m, h, n] =>
    if m = 0 then some (.locateLane h.toNat n.toNat)
    else if m = 1 then some (.locateApron h.toNat)
    else if m = 2 then some (.locateRetire h.toNat) else none
  | 0x34, [h] => some (.retire h.toNat)
  | 0x35, [h] => some (.recordRead h.toNat)
  | 0x36, [n1, n0] => some (.recordFind (num2 n1 n0))
  | 0x37, [h] => some (.recordScan h.toNat)
  | 0x38, [h, x, n] => some (.recall h.toNat x.toNat n.toNat)
  | 0x39, [] => some .waitListRead
  | 0x40, [n] => some (.islandOpen n.toNat)
  | 0x41, [n] => some (.islandClose n.toNat)
  | 0x42, [n, e, q1, q0] =>
    if e = 2 then some (.islandConfirmVoid n.toNat)
    else some (.islandConfirm n.toNat e.toNat (num2 q1 q0))
  | 0x43, [n] => some (.islandRead n.toNat)
  | 0x44, [f, q1, q0] => some (.tankDelivery f.toNat (num2 q1 q0))
  | 0x45, [f, q1, q0] => some (.tankSet f.toNat (num2 q1 q0))
  | 0x46, [f] => some (.tankRead f.toNat)
  | 0x48, [n] => some (.washOpen n.toNat)
  | 0x49, [n] => some (.washClose n.toNat)
  | 0x4A, [n, m] =>
    if m = 0 then some (.washResetRestart n.toNat)
    else if m = 1 then some (.washResetRelease n.toNat) else none
  | 0x4B, [n] => some (.washRead n.toNat)
  | 0x50, [n, x] => some (.laneState n.toNat x.toNat)
  | 0x51, [h, n] => some (.move h.toNat n.toNat)
  | 0x52, [l] => some (.beamDisable l.toNat)
  | 0x53, [l] => some (.beamEnable l.toNat)
  | 0x54, [n] => some (.laneRead n.toNat)
  | 0x60, [d1, d0, e2, e1, e0] => some (.rosterLoad (num2 d1 d0) (num3 e2 e1 e0))
  | 0x61, [n1, n0, p2, p1, p0, c, f] =>
    some (.dutyAdd (num2 n1 n0) (num3 p2 p1 p0) c.toNat f.toNat)
  | 0x62, [] => some .rosterArm
  | 0x63, [] => some .rosterClose
  | 0x64, [] => some .rosterClear
  | 0x65, [n1, n0, h] => some (.dutyBind (num2 n1 n0) h.toNat)
  | 0x66, [n1, n0] => some (.dutyUnbind (num2 n1 n0))
  | 0x67, [a1, a0, b1, b0] => some (.dutySwap (num2 a1 a0) (num2 b1 b0))
  | 0x68, [n1, n0] => some (.dutyCancel (num2 n1 n0))
  | 0x69, [] => some .planBuild
  | 0x6A, [] => some .rosterRead
  | 0x6B, [x] => some (.dutyRead x.toNat)
  | 0x70, [a] => some (.stationRead a.toNat)
  | 0x78, [] => some .attentionRead
  | 0x79, [e1, e0, m] => some (.attentionEnable (num2 e1 e0) m.toNat)
  | _, _ => none

/-- What a transaction of the Control Port is by its form (R177, R179). -/
inductive Frame where
  /-- a request that passes tests 1 to 3 of R179 -/
  | request (i : Instr)
  /-- the first byte is 0x00, or no byte came: no request (R178) -/
  | noRequest
  /-- test 1 of R179 fails: CHECK -/
  | badCheck (code : Byte)
  /-- test 2 of R179 fails: UNKNOWN -/
  | unknownCode (code : Byte)
  /-- test 3 of R179 fails: RANGE -/
  | badLength (code : Byte)
  /-- a request of the table whose mode byte is in no list of 11.3 (log 8) -/
  | badMode (code : Byte)
  deriving DecidableEq, Repr

/-- The tests of R179 on the form of a transaction, in order. -/
def decodeFrame (bytes : List Byte) : Frame :=
  match bytes with
  | [] => .noRequest
  | [code] => if code = 0 then .noRequest else .badCheck code
  | code :: n :: rest =>
    if code = 0 then .noRequest
    else if rest.length ≠ n.toNat + 1 ∨ byteSum bytes ≠ 0 then .badCheck code
    else
      match argLength code.toNat with
      | none => .unknownCode code
      | some k =>
        if n.toNat ≠ k then .badLength code
        else
          match decodeArgs code.toNat rest.dropLast with
          | some i => .request i
          | none => .badMode code

/-- The code and arguments of a request (11.3); none for a command that is no request. -/
def encodeArgs : Instr → Option (Nat × List Byte)
  | .status => some (0x01, [])
  | .more => some (0x02, [])
  | .laneDefine n k c => some (0x10, [byte n, 0, byte k] ++ bytes2 c)
  | .laneUndefine n => some (0x10, [byte n, 1, 0, 0, 0])
  | .islandDefine n f => some (0x11, [byte n, 0, byte f])
  | .islandUndefine n => some (0x11, [byte n, 1, 0])
  | .washDefine n => some (0x12, [byte n, 0])
  | .washUndefine n => some (0x12, [byte n, 1])
  | .tank f c l r => some (0x13, byte f :: bytes2 c ++ [byte l, byte r])
  | .stationDefine a k n => some (0x14, [byte a, 0, byte k, byte n])
  | .stationUndefine a => some (0x14, [byte a, 1, 0, 0])
  | .beams l r n => some (0x15, [byte l, byte r, byte n])
  | .times a b c d e f g h =>
    some (0x16, bytes2 a ++ bytes2 b ++ bytes2 c ++ bytes2 d ++ bytes2 e ++ bytes2 f
      ++ [byte g, byte h])
  | .layoutRead k n => some (0x17, [byte k, byte n])
  | .openYard => some (0x18, [])
  | .closeYard => some (0x19, [])
  | .yardClear => some (0x1A, [])
  | .setClock t d => some (0x1B, bytes3 t ++ bytes2 d)
  | .trimClock z => some (0x1C, [BitVec.ofInt 8 z])
  | .vehicleRead n => some (0x20, bytes2 n)
  | .add n f l t i a p b =>
    some (0x21, bytes2 n ++ [byte f, byte l] ++ bytes2 t ++ [byte i, byte a, byte p, byte b])
  | .remove n => some (0x22, bytes2 n)
  | .update n f l t i p b =>
    some (0x23, bytes2 n ++ [byte f, byte l] ++ bytes2 t ++ [byte i, byte p, byte b])
  | .washAgeSet n a => some (0x24, bytes2 n ++ [byte a])
  | .readNext => some (0x25, [])
  | .seek n => some (0x26, bytes2 n)
  | .holdSet h x => some (0x30, [byte h, byte x])
  | .holdClear h x => some (0x31, [byte h, byte x])
  | .routeFlags h f w => some (0x32, [byte h, byte f, byte w])
  | .locateLane h n => some (0x33, [0, byte h, byte n])
  | .locateApron h => some (0x33, [1, byte h, 0])
  | .locateRetire h => some (0x33, [2, byte h, 0])
  | .retire h => some (0x34, [byte h])
  | .recordRead h => some (0x35, [byte h])
  | .recordFind n => some (0x36, bytes2 n)
  | .recordScan h => some (0x37, [byte h])
  | .recall h x n => some (0x38, [byte h, byte x, byte n])
  | .waitListRead => some (0x39, [])
  | .islandOpen n => some (0x40, [byte n])
  | .islandClose n => some (0x41, [byte n])
  | .islandConfirm n e q => some (0x42, [byte n, byte e] ++ bytes2 q)
  | .islandConfirmVoid n => some (0x42, [byte n, 2, 0, 0])
  | .islandRead n => some (0x43, [byte n])
  | .tankDelivery f q => some (0x44, byte f :: bytes2 q)
  | .tankSet f q => some (0x45, byte f :: bytes2 q)
  | .tankRead f => some (0x46, [byte f])
  | .washOpen n => some (0x48, [byte n])
  | .washClose n => some (0x49, [byte n])
  | .washResetRestart n => some (0x4A, [byte n, 0])
  | .washResetRelease n => some (0x4A, [byte n, 1])
  | .washRead n => some (0x4B, [byte n])
  | .laneState n x => some (0x50, [byte n, byte x])
  | .move h n => some (0x51, [byte h, byte n])
  | .beamDisable l => some (0x52, [byte l])
  | .beamEnable l => some (0x53, [byte l])
  | .laneRead n => some (0x54, [byte n])
  | .rosterLoad d e => some (0x60, bytes2 d ++ bytes3 e)
  | .dutyAdd n p c f => some (0x61, bytes2 n ++ bytes3 p ++ [byte c, byte f])
  | .rosterArm => some (0x62, [])
  | .rosterClose => some (0x63, [])
  | .rosterClear => some (0x64, [])
  | .dutyBind n h => some (0x65, bytes2 n ++ [byte h])
  | .dutyUnbind n => some (0x66, bytes2 n)
  | .dutySwap a b => some (0x67, bytes2 a ++ bytes2 b)
  | .dutyCancel n => some (0x68, bytes2 n)
  | .planBuild => some (0x69, [])
  | .rosterRead => some (0x6A, [])
  | .dutyRead x => some (0x6B, [byte x])
  | .stationRead a => some (0x70, [byte a])
  | .attentionRead => some (0x78, [])
  | .attentionEnable e m => some (0x79, bytes2 e ++ [byte m])
  | .powerOn | .resetnAssert | .resetnRelease | .tableCheckEnd _ | .secondEvent
  | .transitExpiry _ | .idleExpiry _ | .dripExpiry _
  | .callCheck | .dutyMiss | .releaseEndClose | .dispatchScan | .planSweepStep
  | .pollSend | .pollOutcome _
  | .digit | .clear | .arrive | .level | .gateDefect | .depart
  | .here | .nozzleOut | .endCode | .fullCode | .voidCode
  | .ready | .cycleOn | .cycleDone | .fault | .entered | .exited | .faultClear
  | .inCode | .outCode | .lanePostDefect | .lanePostOk
  | .laneMouthPassage _ | .laneEntryPassage _ | .laneExitPassage _
  | .washEntryPassage _ | .washExitPassage _ | .unassignedLinePassage _
  | .requestWhileInHand _ | .malformedRequest _ | .answerRead _
  | .undefinedCode | .answerReady => none

/-- The frame of a request: code, length, arguments, check (11.1). -/
def encodeFrame (i : Instr) : Option (List Byte) :=
  match encodeArgs i with
  | some (code, args) => some (withCheck (byte code :: byte args.length :: args))
  | none => none

end Sys2Proof
end

