-- ==== Sys2Proof/Config.lean ====
section
/-!
DEFINITION. The fixed sizes and limits of the part. The manual leaves no value open after which the part goes on, so there is no free value here.
-/
namespace Sys2Proof.Config

/-- The key of a record with no duty that gives a key (00, Departure key): 86400, UNBOUND. -/
def unbound : Nat := 86400
/-- Seconds in a day (R15). -/
def daySeconds : Nat := 86400
/-- Day numbers before the wrap (R17). -/
def dayCount : Nat := 65536
/-- Entries of the Fleet Register (R24). -/
def registerSize : Nat := 256
/-- The end mark of the read cursor (R31). -/
def cursorEnd : Nat := 256
/-- Slots of the Visit Table (R41). -/
def visitSlots : Nat := 128
/-- Duties of a roster (R143). -/
def dutySlots : Nat := 128
/-- Entries of the apron part of the Wait List (R77). -/
def apronSize : Nat := 16
/-- Entry sequences before the wrap (R77). -/
def sequenceCount : Nat := 65536
/-- Queue length plus reserved count of an island (R89). -/
def islandPlaces : Nat := 4
/-- List length plus reserved inbound count of a wash lane (R110). -/
def washPlaces : Nat := 3
/-- Entries of the Station Code Queue (R171). -/
def codeQueueSize : Nat := 16
/-- Data bytes of one answer frame (R178). -/
def partSize : Nat := 64
/-- The highest count of the DUTY-MISSED detail (R161). -/
def missedCountCap : Nat := 128

end Sys2Proof.Config
end

