-- ==== Sys2Proof/Machine/State.lean ====
section
/-!
DEFINITION. Every piece of state the manual gives the part, as plain data, block by block, and the state after power-on. What the manual derives and does not hold (keys, readiness, inversion counts, wash due, pending conditions, ATTN, CPRDY) is a function of these fields in Flags.lean.
-/
namespace Sys2Proof.Machine

/-- A command that makes the machine stop. The manual names none (log 25), so there is none. -/
inductive Fault
  deriving DecidableEq, Repr

/-- A command refused by the model. -/
inductive Refusal where
  /-- A row without a meaning yet, by its mnemonic. Raised by no arm of exec; safe. -/
  | notModelled (mnemonic : String)
  deriving DecidableEq, Repr

/-! Boot and phase (R9, R10) -/

/-- RESETn held low, the table check running, or neither (R9). -/
inductive Boot where
  | resetLow | checking | running
  deriving DecidableEq, Repr

/-- The yard phase (R10). -/
inductive Phase where
  | setup | opened | halted
  deriving DecidableEq, Repr

/-! The Layout Store (R1) -/

inductive FuelKind where
  | diesel | gas
  deriving DecidableEq, Repr

inductive LengthClass where
  | standard | artic
  deriving DecidableEq, Repr

inductive LaneKind where
  | stack | through
  deriving DecidableEq, Repr

inductive StationKind where
  | gateIn | gateOut | island | wash | lanePost
  deriving DecidableEq, Repr

/-- The role of a beam line with its facility number (R6). -/
inductive BeamRole where
  | unassigned
  | laneMouth (lane : Nat)
  | laneEntry (lane : Nat)
  | laneExit (lane : Nat)
  | washEntry (washLane : Nat)
  | washExit (washLane : Nat)
  deriving DecidableEq, Repr

/-- A beam line: role (R6), enabled flag (R130), STRAY-PASSAGE latch (R133). -/
structure Beam where
  role : BeamRole
  enabled : Bool
  stray : Bool
  deriving DecidableEq, Repr

/-- The time settings and enable flags (R7). -/
structure Times where
  callLead : Nat
  missGrace : Nat
  transitLimit : Nat
  idleTime : Nat
  dripTime : Nat
  horizon : Nat
  autoSwap : Bool
  autoBind : Bool
  deriving DecidableEq, Repr

/-! The Yard Clock (R15) -/

/-- eventSecond is the yard second as the last second event made it, which the owners read of that event (R16); neither SET CLOCK nor TRIM CLOCK writes it (log 37). -/
structure Clock where
  second : Nat
  day : Nat
  isSet : Bool
  divider : Nat
  eventSecond : Nat
  deriving DecidableEq, Repr

/-! The Fleet Register (R24) -/

structure Entry where
  fleet : Nat
  fuel : FuelKind
  length : LengthClass
  tankSize : Nat
  interval : Nat
  age : Nat
  program : Nat
  barred : Bool
  inYard : Option Nat
  deriving DecidableEq, Repr

/-! The Visit Table (R42 to R44) -/

inductive IslandSub where
  | queued | atPump | dispensing | check | done
  deriving DecidableEq, Repr

inductive WashSub where
  | queued | washing | dripping | done | halted
  deriving DecidableEq, Repr

/-- The ten states of a record, with the sub-position where there is one (R43, R44). -/
inductive VisitState where
  | apron
  | toIsland
  | atIsland (sub : IslandSub)
  | toWash
  | atWash (sub : WashSub)
  | toBerth
  | parked
  | called
  | toGate
  | astray
  deriving DecidableEq, Repr

/-- Where a record stands; its position is read from that place's list (R42). -/
inductive Place where
  | apron
  | island (n : Nat)
  | wash (n : Nat)
  | lane (n : Nat)
  deriving DecidableEq, Repr

/-- A target of a transit, and the destination of a movement (R42, R124). -/
inductive Target where
  | island (n : Nat)
  | wash (n : Nat)
  | lane (n : Nat)
  | gate
  deriving DecidableEq, Repr

inductive FuelResult where
  | unset | done | full | part | owed | unconfirmed
  deriving DecidableEq, Repr

inductive WashResult where
  | unset | notDue | full | short | faulted | skipped
  deriving DecidableEq, Repr

/-- The holds set (R52). -/
structure Holds where
  defect : Bool
  dispatch : Bool
  fuelOwed : Bool
  fuelUnconfirmed : Bool
  deriving DecidableEq, Repr

/-- A live record (R42), with its need progress (R87). -/
structure Visit where
  fleet : Nat
  state : VisitState
  place : Option Place
  target : Option Target
  timer : Option Nat
  movement : Option Target
  arrivalSecond : Nat
  arrivalDay : Nat
  need : Option Nat
  taken : Nat
  progress : Nat
  fuelResult : FuelResult
  washResult : WashResult
  skipFuel : Bool
  skipWash : Bool
  holds : Holds
  duty : Option Nat
  deriving DecidableEq, Repr

/-! The Service Router (R77, R79) -/

inductive Stage where
  | fuel | wash | berth
  deriving DecidableEq, Repr

structure WaitEntry where
  handle : Nat
  need : Stage
  place : Place
  sequence : Nat
  deriving DecidableEq, Repr

structure Router where
  exitHeld : List WaitEntry
  apron : List WaitEntry
  scanPending : Bool
  nextSequence : Nat
  deriving DecidableEq, Repr

/-! The Island Controller and the Stock Monitor (R87, R100, R101) -/

inductive IslandState where
  | opened | closed | check
  deriving DecidableEq, Repr

inductive TurnState where
  | atPump | dispensing | check
  deriving DecidableEq, Repr

structure Turn where
  state : TurnState
  limit : Nat
  idle : Option Nat
  overrun : Bool
  deriving DecidableEq, Repr

inductive Ending where
  | ended | full | abandoned | void | limitZero | retired
  deriving DecidableEq, Repr

/-- The last settlement of an island (R100). -/
structure Settlement where
  fleet : Nat
  handle : Nat
  ending : Ending
  limit : Nat
  reported : Option Nat
  settled : Option Nat
  overrun : Bool
  second : Nat
  result : Option FuelResult
  deriving DecidableEq, Repr

structure Island where
  fuel : FuelKind
  state : IslandState
  queue : List Nat
  reserved : Nat
  turn : Option Turn
  last : Option Settlement
  deriving DecidableEq, Repr

/-- A tank (R101) with its STOCK-LOW latch (R103). -/
structure Tank where
  capacity : Nat
  lowLevel : Nat
  reserveLevel : Nat
  stock : Nat
  committed : Nat
  lowFlag : Bool
  reserveFlag : Bool
  lowLatch : Option Nat
  deriving DecidableEq, Repr

/-! The Wash Lane Controller (R108) -/

inductive WashState where
  | opened | closed | fault
  deriving DecidableEq, Repr

structure WashLane where
  state : WashState
  machineReady : Bool
  startPosted : Bool
  entryLock : Option Nat
  reserved : Nat
  list : List Nat
  drip : Option Nat
  exitTarget : Option Nat
  deriving DecidableEq, Repr

/-! The Berth Lane Array (R122, R124) -/

inductive LaneState where
  | opened | entryClosed | shut
  deriving DecidableEq, Repr

/-- The movement a lane lock names (R124). -/
inductive Movement where
  | inbound (handle : Nat)
  | outbound (handle : Nat) (destination : Target)
  deriving DecidableEq, Repr

/-- A defined lane. `mouth` is the mouth lock of a STACK lane and the entry lock of a THROUGH lane; `far` is the exit lock of a THROUGH lane and stays free in a STACK lane (R124). -/
structure Lane where
  kind : LaneKind
  capacity : Nat
  state : LaneState
  list : List Nat
  used : Nat
  reserved : Nat
  mouth : Option Movement
  far : Option Movement
  deriving DecidableEq, Repr

/-! The Roster Unit (R143, R144) -/

inductive FuelSet where
  | diesel | gas | either
  deriving DecidableEq, Repr

inductive HeldReason where
  | uncovered | notReady | inService | blocked | mouthBusy | laneShut
  deriving DecidableEq, Repr

/-- The state of a duty; HELD carries its held reason (R144). -/
inductive DutyState where
  | opened | bound
  | held (reason : HeldReason)
  | called | departing | gone | missed | cancelled
  deriving DecidableEq, Repr

structure Duty where
  number : Nat
  pullOut : Nat
  length : LengthClass
  fuelSet : FuelSet
  state : DutyState
  bound : Option Nat
  swapped : Bool
  deriving DecidableEq, Repr

inductive RosterState where
  | empty | loading | armed | active | closed
  deriving DecidableEq, Repr

inductive PlanStatus where
  | idle | running | done | stale | abandoned
  deriving DecidableEq, Repr

/-- The plan sweep (R143, R162): counts, walk order as slots, walk position, stale mark. -/
structure Plan where
  status : PlanStatus
  bound : Nat
  uncovered : Nat
  unreachable : Nat
  order : List Nat
  walk : Nat
  stale : Bool
  deriving DecidableEq, Repr

/-- The roster header and duties, and the comparisons the last second event made due and not yet taken (R154, log 3). -/
structure Roster where
  state : RosterState
  day : Nat
  releaseEnd : Nat
  duties : List Duty
  plan : Plan
  closeDue : Bool
  missesDue : List Nat
  checksDue : List Nat
  deriving DecidableEq, Repr

/-! The Station Line Controller (R167 to R171) -/

inductive Presence where
  | unknown | online | offline
  deriving DecidableEq, Repr

inductive Reason where
  | undefinedCode | keyNeeded | noNumber | unknownVehicle | barred | duplicate
  | yardFull | wait | notExpected | notCalled
  deriving DecidableEq, Repr

inductive Reply where
  | accept
  | refuse (reason : Reason)
  | repeatCodes
  | closed
  deriving DecidableEq, Repr

inductive Directive where
  | blank
  | go (place : Place)
  | authorise (limit fleet : Nat)
  | stop
  | washStart (program : Nat)
  | call (fleet : Nat)
  deriving DecidableEq, Repr

/-- The last status of a station: key state and station fault flag (R167). -/
structure Status where
  key : Bool
  fault : Bool
  deriving DecidableEq, Repr

structure Station where
  kind : StationKind
  facility : Nat
  presence : Presence
  missed : Nat
  last : Option Status
  accumulator : Nat
  pendingLevel : Option Nat
  pendingDefect : Bool
  directive : Directive
  reply : Option Reply
  deriving DecidableEq, Repr

/-- An entry of the Station Code Queue (R171). -/
structure CodeEntry where
  address : Nat
  code : Byte
  key : Bool
  deriving DecidableEq, Repr

/-- The poll in progress: what it carried, and whether a directive was posted or a reply set since its frame was built (R168, R170). -/
structure Poll where
  address : Nat
  directive : Directive
  reply : Option Reply
  posted : Bool
  replied : Bool
  deriving DecidableEq, Repr

structure Line where
  stations : Vector (Option Station) 16
  queue : List CodeEntry
  round : List Nat
  poll : Option Poll
  sent : List Byte
  deriving DecidableEq, Repr

/-! The Control Port and Attention (R177, R178, R181) -/

/-- The result codes of an answer (R179). -/
inductive Result where
  | ok | busy | phase | check | unknown | range | notFound | full | state | locked | conflict
  deriving DecidableEq, Repr

/-- An owner's outcome for a request: echoed code, result, all its data (R178). -/
structure Answer where
  code : Byte
  result : Result
  data : List Byte
  deriving DecidableEq, Repr

/-- The request in hand, the held answer frame, the parts of an answer not yet fetched, and the bytes last shifted out on MISO (R177, R178). -/
structure Port where
  inHand : Option Answer
  held : Option (List Byte)
  rest : Option Answer
  miso : List Byte
  deriving DecidableEq, Repr

/-- The DUTY-MISSED latch (R161). -/
structure MissedLatch where
  first : Nat
  count : Nat
  deriving DecidableEq, Repr

/-- The PLAN-ENDED latch (R164). -/
structure PlanLatch where
  ending : PlanStatus
  bound : Nat
  uncovered : Nat
  unreachable : Nat
  deriving DecidableEq, Repr

/-- The enable flags, bit i for condition i + 1, the master enable, and the Roster Unit's latches; the other latches stand in Beam and Tank (R181). -/
structure Attention where
  enables : BitVec 12
  master : Bool
  dutyMissed : Option MissedLatch
  planEnded : Option PlanLatch
  deriving DecidableEq, Repr

/-! The whole part -/

structure State where
  boot : Boot
  checkPassed : Bool
  phase : Phase
  times : Times
  beams : Vector Beam 48
  clock : Clock
  register : List Entry
  cursor : Nat
  visits : Vector (Option Visit) 128
  router : Router
  islands : Vector (Option Island) 6
  diesel : Tank
  gas : Tank
  washes : Vector (Option WashLane) 3
  lanes : Vector (Option Lane) 20
  roster : Roster
  line : Line
  port : Port
  attention : Attention
  /-- the commands waiting, first in first out -/
  pending : List Instr
  deriving DecidableEq, Repr

/-! Power-on values, block by block -/

/-- R7, after power-on. -/
def Times.reset : Times :=
  { callLead := 600, missGrace := 300, transitLimit := 240, idleTime := 120, dripTime := 90,
    horizon := 3600, autoSwap := false, autoBind := false }

/-- R6, R130, R142. -/
def Beam.reset : Beam := { role := .unassigned, enabled := true, stray := false }

/-- R15; no second event has been raised yet (log 37). -/
def Clock.reset : Clock :=
  { second := 0, day := 0, isSet := false, divider := 0, eventSecond := 0 }

/-- R86. -/
def Router.reset : Router := { exitHeld := [], apron := [], scanPending := false, nextSequence := 0 }

/-- R1, R107: both flags set, as the stock 0 is at or below both amounts; no latch. -/
def Tank.reset : Tank :=
  { capacity := 10000, lowLevel := 4, reserveLevel := 2, stock := 0, committed := 0,
    lowFlag := true, reserveFlag := true, lowLatch := none }

/-- R143 for the status and the counts. It gives the walk order, the walk position and the stale mark no value outside a running sweep: empty, 0 and clear are the model's choice (log 39). -/
def Plan.reset : Plan :=
  { status := .idle, bound := 0, uncovered := 0, unreachable := 0, order := [], walk := 0,
    stale := false }

/-- R143, R166. -/
def Roster.reset : Roster :=
  { state := .empty, day := 0, releaseEnd := 0, duties := [], plan := .reset,
    closeDue := false, missesDue := [], checksDue := [] }

/-- R176. -/
def Line.reset : Line :=
  { stations := Vector.replicate 16 none, queue := [], round := [], poll := none, sent := [] }

/-- R9, R177. -/
def Port.reset : Port := { inHand := none, held := none, rest := none, miso := [] }

/-- R181. -/
def Attention.reset : Attention :=
  { enables := 0, master := false, dutyMissed := none, planEnded := none }

/-- The part right after power-on: every block at its power-on value, the table check running (R9, log 4). -/
def State.reset : State :=
  { boot := .checking, checkPassed := true, phase := .setup,
    times := .reset, beams := Vector.replicate 48 .reset, clock := .reset,
    register := [], cursor := 0, visits := Vector.replicate 128 none, router := .reset,
    islands := Vector.replicate 6 none, diesel := .reset, gas := .reset,
    washes := Vector.replicate 3 none, lanes := Vector.replicate 20 none,
    roster := .reset, line := .reset, port := .reset, attention := .reset, pending := [] }

end Sys2Proof.Machine
end

