-- ==== Sys2Proof/Machine/Ops.lean ====
section
/-!
DEFINITION. The named operations over State: fixed tables, the updates of each block, the register's lookup, the layout's lookups, timers, directives and replies, locks, and the moves of a record from place to place.
-/
namespace Sys2Proof.Machine

/-! Fixed tables of optional records -/

/-- The record in slot i of a fixed table. -/
def slotGet {α : Type} {k : Nat} (v : Vector (Option α) k) (i : Nat) : Option α := (v[i]?).join

/-- The table with slot i holding x; a slot beyond the table changes nothing. -/
def slotSet {α : Type} {k : Nat} (v : Vector (Option α) k) (i : Nat) (x : Option α) :
    Vector (Option α) k := v.setIfInBounds i x

/-! The updates of the blocks -/

def State.setPhase (s : State) (x : Phase) : State := { s with phase := x }
def State.setTimes (s : State) (x : Times) : State := { s with times := x }
def State.setBeams (s : State) (x : Vector Beam 48) : State := { s with beams := x }
def State.setClock (s : State) (x : Clock) : State := { s with clock := x }
def State.setRegister (s : State) (x : List Entry) : State := { s with register := x }
def State.setCursor (s : State) (x : Nat) : State := { s with cursor := x }
def State.setVisits (s : State) (x : Vector (Option Visit) 128) : State := { s with visits := x }
def State.setRouter (s : State) (x : Router) : State := { s with router := x }
def State.setIslands (s : State) (x : Vector (Option Island) 6) : State := { s with islands := x }
def State.setDiesel (s : State) (x : Tank) : State := { s with diesel := x }
def State.setGas (s : State) (x : Tank) : State := { s with gas := x }
def State.setWashes (s : State) (x : Vector (Option WashLane) 3) : State := { s with washes := x }
def State.setLanes (s : State) (x : Vector (Option Lane) 20) : State := { s with lanes := x }
def State.setRoster (s : State) (x : Roster) : State := { s with roster := x }
def State.setLine (s : State) (x : Line) : State := { s with line := x }
def State.setPort (s : State) (x : Port) : State := { s with port := x }
def State.setAttention (s : State) (x : Attention) : State := { s with attention := x }

/-! Records, facilities, tanks, duties, stations by handle or number -/

/-- The live record of a handle (R41). -/
def State.visit (s : State) (h : Nat) : Option Visit := slotGet s.visits h
def State.putVisit (s : State) (h : Nat) (x : Option Visit) : State :=
  s.setVisits (slotSet s.visits h x)
def State.modVisit (s : State) (h : Nat) (f : Visit → Visit) : State :=
  match s.visit h with
  | some v => s.putVisit h (some (f v))
  | none => s

/-- Facilities are numbered from 1 (R1). -/
def State.island (s : State) (n : Nat) : Option Island :=
  if n = 0 then none else slotGet s.islands (n - 1)
def State.putIsland (s : State) (n : Nat) (x : Option Island) : State :=
  if n = 0 then s else s.setIslands (slotSet s.islands (n - 1) x)
def State.modIsland (s : State) (n : Nat) (f : Island → Island) : State :=
  match s.island n with
  | some i => s.putIsland n (some (f i))
  | none => s

def State.wash (s : State) (n : Nat) : Option WashLane :=
  if n = 0 then none else slotGet s.washes (n - 1)
def State.putWash (s : State) (n : Nat) (x : Option WashLane) : State :=
  if n = 0 then s else s.setWashes (slotSet s.washes (n - 1) x)
def State.modWash (s : State) (n : Nat) (f : WashLane → WashLane) : State :=
  match s.wash n with
  | some w => s.putWash n (some (f w))
  | none => s

def State.lane (s : State) (n : Nat) : Option Lane :=
  if n = 0 then none else slotGet s.lanes (n - 1)
def State.putLane (s : State) (n : Nat) (x : Option Lane) : State :=
  if n = 0 then s else s.setLanes (slotSet s.lanes (n - 1) x)
def State.modLane (s : State) (n : Nat) (f : Lane → Lane) : State :=
  match s.lane n with
  | some l => s.putLane n (some (f l))
  | none => s

def State.station (s : State) (a : Nat) : Option Station :=
  if a = 0 then none else slotGet s.line.stations (a - 1)
def State.setStations (s : State) (x : Vector (Option Station) 16) : State :=
  s.setLine { s.line with stations := x }
def State.putStation (s : State) (a : Nat) (x : Option Station) : State :=
  if a = 0 then s else s.setStations (slotSet s.line.stations (a - 1) x)
def State.modStation (s : State) (a : Nat) (f : Station → Station) : State :=
  match s.station a with
  | some t => s.putStation a (some (f t))
  | none => s

def State.tank (s : State) : FuelKind → Tank
  | .diesel => s.diesel
  | .gas => s.gas
def State.setTank (s : State) (k : FuelKind) (t : Tank) : State :=
  match k with
  | .diesel => s.setDiesel t
  | .gas => s.setGas t

def State.beam (s : State) (l : Nat) : Option Beam := s.beams[l]?
def State.modBeam (s : State) (l : Nat) (f : Beam → Beam) : State :=
  match s.beam l with
  | some b => s.setBeams (s.beams.setIfInBounds l (f b))
  | none => s

def State.duty (s : State) (slot : Nat) : Option Duty := s.roster.duties[slot]?
def State.setDuties (s : State) (ds : List Duty) : State :=
  s.setRoster { s.roster with duties := ds }
def State.modDuty (s : State) (slot : Nat) (f : Duty → Duty) : State :=
  match s.duty slot with
  | some d => s.setDuties (s.roster.duties.set slot (f d))
  | none => s

/-- 0, 1, …, k − 1. -/
def upTo (k : Nat) : List Nat := List.range k
/-- Facility numbers 1, …, k. -/
def oneTo (k : Nat) : List Nat := (List.range k).map (· + 1)

/-- The member of least measure, the first among equals: ties to the lowest number on an ascending list (R73, R74, R129). -/
def leastBy (f : Nat → Nat) : List Nat → Option Nat
  | [] => none
  | n :: ns =>
    match leastBy f ns with
    | none => some n
    | some m => if f n ≤ f m then some n else some m

/-! The Fleet Register's lookup (R25) -/

inductive Lookup where
  | found (index : Nat) (entry : Entry)
  | notFound (insertion : Nat)
  deriving DecidableEq, Repr

/-- The outcome of R25, read off the ordered table entry by entry from index i (log 13). -/
def lookupFrom : List Entry → Nat → Nat → Lookup
  | [], _, i => .notFound i
  | e :: es, n, i =>
    if e.fleet = n then .found i e
    else if n < e.fleet then .notFound i
    else lookupFrom es n (i + 1)

def lookup (table : List Entry) (n : Nat) : Lookup := lookupFrom table n 0

/-- The search by halving that R25 describes, over indices lo up to but not including hi, with at most k comparisons (log 13). -/
def halve (table : List Entry) (n : Nat) : Nat → Nat → Nat → Lookup
  | 0, lo, _ => .notFound lo
  | k + 1, lo, hi =>
    if lo < hi then
      match table[(lo + (hi - 1)) / 2]? with
      | some e =>
        if e.fleet = n then .found ((lo + (hi - 1)) / 2) e
        else if n < e.fleet then halve table n k lo ((lo + (hi - 1)) / 2)
        else halve table n k ((lo + (hi - 1)) / 2 + 1) hi
      | none => .notFound lo
    else .notFound lo

/-- The register entry of a fleet number. -/
def State.entry (s : State) (n : Nat) : Option Entry :=
  match lookup s.register n with
  | .found _ e => some e
  | .notFound _ => none

/-- The register with the entry of a fleet number changed. -/
def State.modEntry (s : State) (n : Nat) (f : Entry → Entry) : State :=
  s.setRegister (s.register.map fun e => if e.fleet = n then f e else e)

/-! The layout's lookups. Where two lines or two stations share a role or a facility, R8 gives the lowest for LAYOUT READ alone; that LANE READ and WASH READ report the lowest too is the model's choice (log 34). In OPEN no two do (R11 tests 6 to 10). -/

/-- The lowest line that holds a role (R6; log 34). -/
def State.lineOf (s : State) (role : BeamRole) : Option Nat :=
  (upTo 48).find? fun l => (s.beam l).map (·.role) == some role

/-- The lowest address of a facility's stations (R5; log 34). -/
def State.stationOf (s : State) (kind : StationKind) (n : Nat) : Option Nat :=
  (oneTo 16).find? fun a =>
    match s.station a with
    | some t => t.kind == kind && t.facility == n
    | none => false

/-- Whether the line of a role is there and enabled (R130). -/
def State.lineEnabled (s : State) (role : BeamRole) : Bool :=
  match s.lineOf role with
  | some l => (s.beam l).map (·.enabled) == some true
  | none => true

/-! Timers (R20) -/

/-- A second event at a timer: the count falls by one and stops at zero. -/
def tickTimer : Option Nat → Option Nat
  | some (n + 1) => some n
  | t => t

/-- What an owner does of a second event reads the yard second as that event made it, also where a TRIM CLOCK has been taken since (R16, log 37). -/
def State.atSecondEvent (s : State) (f : State → State) : State :=
  (f (s.setClock { s.clock with second := s.clock.eventSecond })).setClock s.clock

/-- A timer whose expiry is due: it has reached zero and its owner has not acted yet (log 3). -/
def timerDue (t : Option Nat) : Bool := t == some 0

/-! Directives and replies (R170) -/

/-- A directive is posted at a station; a poll in progress there no longer carries the standing one. -/
def State.post (s : State) (a : Nat) (d : Directive) : State :=
  match s.station a with
  | none => s
  | some t =>
    let s := s.putStation a (some { t with directive := d })
    match s.line.poll with
    | some p =>
      if p.address = a then s.setLine { s.line with poll := some { p with posted := true } } else s
    | none => s

/-- A directive is posted at the station of a facility, if it has one. -/
def State.postAt (s : State) (kind : StationKind) (n : Nat) (d : Directive) : State :=
  match s.stationOf kind n with
  | some a => s.post a d
  | none => s

/-- A reply is set at a station. A standing REPEAT is kept unless the new reply is REPEAT. -/
def State.setReply (s : State) (a : Nat) (r : Reply) : State :=
  match s.station a with
  | none => s
  | some t =>
    if t.reply = some .repeatCodes ∧ r ≠ .repeatCodes then s
    else
      let s := s.putStation a (some { t with reply := some r })
      match s.line.poll with
      | some p =>
        if p.address = a then s.setLine { s.line with poll := some { p with replied := true } }
        else s
      | none => s

/-- The place a GO directive shows for a target (R49, R95, R115). -/
def Target.directive : Target → Directive
  | .island n => .go (.island n)
  | .wash n => .go (.wash n)
  | .lane n => .go (.lane n)
  | .gate => .blank

/-! The Service Router's flag and list (R77 to R79) -/

/-- A capacity report sets the scan-pending flag (R79). -/
def State.reportCapacity (s : State) : State :=
  s.setRouter { s.router with scanPending := true }

def nextSequence (n : Nat) : Nat := (n + 1) % Config.sequenceCount

def State.joinApron (s : State) (h : Nat) (need : Stage) : State :=
  s.setRouter { s.router with
    apron := s.router.apron ++ [⟨h, need, .apron, s.router.nextSequence⟩]
    nextSequence := nextSequence s.router.nextSequence }

def State.joinExitHeld (s : State) (h : Nat) (need : Stage) (place : Place) : State :=
  s.setRouter { s.router with
    exitHeld := s.router.exitHeld ++ [⟨h, need, place, s.router.nextSequence⟩]
    nextSequence := nextSequence s.router.nextSequence }

/-- The entry of a record leaves the Wait List; the others keep their order (R78). -/
def State.leaveWaitList (s : State) (h : Nat) : State :=
  s.setRouter { s.router with
    exitHeld := s.router.exitHeld.filter (·.handle != h)
    apron := s.router.apron.filter (·.handle != h) }

def State.waitEntry (s : State) (h : Nat) : Option WaitEntry :=
  (s.router.exitHeld ++ s.router.apron).find? (·.handle == h)

def State.setNeed (s : State) (h : Nat) (need : Stage) : State :=
  let f := fun (e : WaitEntry) => if e.handle = h then { e with need := need } else e
  s.setRouter { s.router with
    exitHeld := s.router.exitHeld.map f
    apron := s.router.apron.map f }

/-! Holds and fuel results (R52, R54) -/

def Holds.none : Holds :=
  { defect := false, dispatch := false, fuelOwed := false, fuelUnconfirmed := false }

/-- The holds set after a fuel result is reported (R54). -/
def Holds.afterFuel (x : Holds) : FuelResult → Holds
  | .done | .full => { x with fuelOwed := false, fuelUnconfirmed := false }
  | .part | .owed => { x with fuelOwed := true }
  | .unconfirmed => { x with fuelUnconfirmed := true }
  | .unset => x

/-- A report of a fuel result: the result and the holds at one event (R54). -/
def State.reportFuel (s : State) (h : Nat) (r : FuelResult) : State :=
  s.modVisit h fun v => { v with fuelResult := r, holds := v.holds.afterFuel r }

/-! Lane locks (R124) -/

def Lane.entryLock (l : Lane) : Option Movement := l.mouth
def Lane.exitLock (l : Lane) : Option Movement :=
  match l.kind with
  | .stack => l.mouth
  | .through => l.far
def Lane.setEntryLock (l : Lane) (m : Option Movement) : Lane := { l with mouth := m }
def Lane.setExitLock (l : Lane) (m : Option Movement) : Lane :=
  match l.kind with
  | .stack => { l with mouth := m }
  | .through => { l with far := m }

def Movement.handle : Movement → Nat
  | .inbound h => h
  | .outbound h _ => h

/-- The exit lock of a lane is freed where it names the record. The mouth lock of a STACK lane is its entry lock too, so its freeing is capacity (R125). -/
def State.freeExitLock (s : State) (n h : Nat) : State :=
  match s.lane n with
  | none => s
  | some l =>
    if (l.exitLock.map Movement.handle) = some h then
      let s := s.putLane n (some (l.setExitLock none))
      match l.kind with
      | .stack => s.reportCapacity
      | .through => s
    else s

/-- An inbound claim ends without an arrival: the entry lock is freed and the reserved units fall, which is capacity (R59, R64, R123). -/
def State.releaseInbound (s : State) (n h units : Nat) : State :=
  match s.lane n with
  | none => s
  | some l =>
    if l.entryLock = some (.inbound h) then
      (s.putLane n (some { l.setEntryLock none with reserved := l.reserved - units })).reportCapacity
    else s

/-- A reserved place of an island is released, which is capacity (R89). -/
def State.releaseIslandPlace (s : State) (n : Nat) : State :=
  (s.modIsland n fun i => { i with reserved := i.reserved - 1 }).reportCapacity

/-- A wash lane's entry lock and reserved place are released, which is capacity (R110). -/
def State.releaseWashPlace (s : State) (n h : Nat) : State :=
  (s.modWash n fun w =>
    { w with entryLock := if w.entryLock = some h then none else w.entryLock,
             reserved := w.reserved - 1 }).reportCapacity

/-- What the destination of a movement or the target of a transit holds for a record is released (R59, R64). -/
def State.releaseTarget (s : State) (h units : Nat) : Target → State
  | .island n => s.releaseIslandPlace n
  | .wash n => s.releaseWashPlace n h
  | .lane n => s.releaseInbound n h units
  | .gate => s

/-! The moves of a record (R57, R58) -/

/-- The transit state of a target (R57). -/
def Target.transitState : Target → VisitState
  | .island _ => .toIsland
  | .wash _ => .toWash
  | .lane _ => .toBerth
  | .gate => .toGate

/-- A record enters the transit state of a target with its timer loaded (R57). -/
def State.enterTransit (s : State) (h : Nat) (t : Target) : State :=
  s.modVisit h fun v =>
    { v with state := t.transitState, place := none, target := some t,
             timer := some s.times.transitLimit, movement := none }

/-- A transit ends at a place (R58). -/
def State.arrive (s : State) (h : Nat) (st : VisitState) (p : Place) : State :=
  s.modVisit h fun v =>
    { v with state := st, place := some p, target := none, timer := none }

/-- A record is lost to the part (R59, R60). -/
def State.goAstray (s : State) (h : Nat) : State :=
  s.modVisit h fun v =>
    { v with state := .astray, place := none, target := none, timer := none, movement := none }

def State.setSub (s : State) (h : Nat) (st : VisitState) : State :=
  s.modVisit h fun v => { v with state := st }

/-- The lowest free slot of the Visit Table (R41). -/
def State.freeSlot (s : State) : Option Nat :=
  (upTo Config.visitSlots).find? fun h => (s.visit h).isNone

/-- The handles of the live records, ascending. -/
def State.live (s : State) : List Nat :=
  (upTo Config.visitSlots).filter fun h => (s.visit h).isSome

/-- Berth units by length class (R122). -/
def LengthClass.units : LengthClass → Nat
  | .standard => 1
  | .artic => 2

/-- The berth units of a record, by its register entry (R35, R122). -/
def State.unitsOf (s : State) (h : Nat) : Nat :=
  match s.visit h with
  | some v =>
    match s.entry v.fleet with
    | some e => e.length.units
    | none => 1
  | none => 1

end Sys2Proof.Machine
end

