-- ==== Sys2Proof/Machine/Operands.lean ====
section
/-!
DEFINITION. The operand forms of requests and answers (11.3): which numbers name an enumerated value, the ranges of the rules, and the bytes of every value an answer carries.
-/
namespace Sys2Proof.Machine

/-- n lies in lo..hi, both ends included. -/
def within (lo hi n : Nat) : Bool := lo ≤ n && n ≤ hi

/-! Enumerated operands: the position of the value in the list of the rule that defines it (11.3) -/

def fuelOf : Nat → Option FuelKind
  | 0 => some .diesel | 1 => some .gas | _ => none
def lengthOf : Nat → Option LengthClass
  | 0 => some .standard | 1 => some .artic | _ => none
def laneKindOf : Nat → Option LaneKind
  | 0 => some .stack | 1 => some .through | _ => none
def stationKindOf : Nat → Option StationKind
  | 0 => some .gateIn | 1 => some .gateOut | 2 => some .island | 3 => some .wash
  | 4 => some .lanePost | _ => none
def boolOf : Nat → Option Bool
  | 0 => some false | 1 => some true | _ => none
def laneStateOf : Nat → Option LaneState
  | 0 => some .opened | 1 => some .entryClosed | 2 => some .shut | _ => none
def fuelSetOf : Nat → Option FuelSet
  | 0 => some .diesel | 1 => some .gas | 2 => some .either | _ => none
/-- The service of RECALL (R83). -/
def serviceOf : Nat → Option Stage
  | 0 => some .fuel | 1 => some .wash | _ => none

inductive Hold where
  | defect | dispatch | fuelOwed | fuelUnconfirmed
  deriving DecidableEq, Repr

def holdOf : Nat → Option Hold
  | 0 => some .defect | 1 => some .dispatch | 2 => some .fuelOwed | 3 => some .fuelUnconfirmed
  | _ => none

/-- A role with its facility number (R6); the number of role NONE is not tested (log 12). -/
def roleOf (role n : Nat) : Option BeamRole :=
  match role with
  | 0 => some .unassigned
  | 1 => if within 1 20 n then some (.laneMouth n) else none
  | 2 => if within 1 20 n then some (.laneEntry n) else none
  | 3 => if within 1 20 n then some (.laneExit n) else none
  | 4 => if within 1 3 n then some (.washEntry n) else none
  | 5 => if within 1 3 n then some (.washExit n) else none
  | _ => none

/-- The facility number a station kind admits (R5). -/
def facilityOk : StationKind → Nat → Bool
  | .gateIn, n | .gateOut, n => n == 0
  | .island, n => within 1 6 n
  | .wash, n => within 1 3 n
  | .lanePost, n => within 1 20 n

/-! Enumerated values in answers -/

def FuelKind.code : FuelKind → Nat | .diesel => 0 | .gas => 1
def LengthClass.code : LengthClass → Nat | .standard => 0 | .artic => 1
def LaneKind.code : LaneKind → Nat | .stack => 0 | .through => 1
def StationKind.code : StationKind → Nat
  | .gateIn => 0 | .gateOut => 1 | .island => 2 | .wash => 3 | .lanePost => 4
def BeamRole.code : BeamRole → Nat
  | .unassigned => 0 | .laneMouth _ => 1 | .laneEntry _ => 2 | .laneExit _ => 3
  | .washEntry _ => 4 | .washExit _ => 5
def BeamRole.facility : BeamRole → Option Nat
  | .unassigned => none
  | .laneMouth n | .laneEntry n | .laneExit n | .washEntry n | .washExit n => some n
def LaneState.code : LaneState → Nat | .opened => 0 | .entryClosed => 1 | .shut => 2
def IslandState.code : IslandState → Nat | .opened => 0 | .closed => 1 | .check => 2
def WashState.code : WashState → Nat | .opened => 0 | .closed => 1 | .fault => 2
def TurnState.code : TurnState → Nat | .atPump => 0 | .dispensing => 1 | .check => 2
def IslandSub.code : IslandSub → Nat
  | .queued => 0 | .atPump => 1 | .dispensing => 2 | .check => 3 | .done => 4
def WashSub.code : WashSub → Nat
  | .queued => 0 | .washing => 1 | .dripping => 2 | .done => 3 | .halted => 4
/-- A record's state, in the order of R43. -/
def VisitState.code : VisitState → Nat
  | .apron => 0 | .toIsland => 1 | .atIsland _ => 2 | .toWash => 3 | .atWash _ => 4
  | .toBerth => 5 | .parked => 6 | .called => 7 | .toGate => 8 | .astray => 9
/-- A record's sub-position, in the order of R44. -/
def VisitState.sub : VisitState → Option Nat
  | .atIsland x => some x.code
  | .atWash x => some x.code
  | _ => none
def FuelResult.code : FuelResult → Nat
  | .unset => 0 | .done => 1 | .full => 2 | .part => 3 | .owed => 4 | .unconfirmed => 5
def WashResult.code : WashResult → Nat
  | .unset => 0 | .notDue => 1 | .full => 2 | .short => 3 | .faulted => 4 | .skipped => 5
def Ending.code : Ending → Nat
  | .ended => 0 | .full => 1 | .abandoned => 2 | .void => 3 | .limitZero => 4 | .retired => 5
def Stage.code : Stage → Nat | .fuel => 0 | .wash => 1 | .berth => 2
def FuelSet.code : FuelSet → Nat | .diesel => 0 | .gas => 1 | .either => 2
def HeldReason.code : HeldReason → Nat
  | .uncovered => 0 | .notReady => 1 | .inService => 2 | .blocked => 3 | .mouthBusy => 4
  | .laneShut => 5
def DutyState.code : DutyState → Nat
  | .opened => 0 | .bound => 1 | .held _ => 2 | .called => 3 | .departing => 4 | .gone => 5
  | .missed => 6 | .cancelled => 7
def DutyState.reason : DutyState → Option HeldReason
  | .held r => some r
  | _ => none
def RosterState.code : RosterState → Nat
  | .empty => 0 | .loading => 1 | .armed => 2 | .active => 3 | .closed => 4
def PlanStatus.code : PlanStatus → Nat
  | .idle => 0 | .running => 1 | .done => 2 | .stale => 3 | .abandoned => 4
def Phase.code : Phase → Nat | .setup => 0 | .opened => 1 | .halted => 2
def Presence.code : Presence → Nat | .unknown => 0 | .online => 1 | .offline => 2
def Reason.code : Reason → Nat
  | .undefinedCode => 1 | .keyNeeded => 2 | .noNumber => 3 | .unknownVehicle => 4 | .barred => 5
  | .duplicate => 6 | .yardFull => 7 | .wait => 8 | .notExpected => 9 | .notCalled => 10
def Result.code : Result → Nat
  | .ok => 0 | .busy => 1 | .phase => 2 | .check => 3 | .unknown => 4 | .range => 5
  | .notFound => 6 | .full => 7 | .state => 8 | .locked => 9 | .conflict => 10

/-! The bytes of values (11.3) -/

def b1 (n : Nat) : List Byte := [byte n]
def b2 (n : Nat) : List Byte := bytes2 n
def b3 (n : Nat) : List Byte := bytes3 n
def bBool (b : Bool) : List Byte := b1 (if b then 1 else 0)
/-- An absent value: every byte 0xFF. -/
def absent (k : Nat) : List Byte := List.replicate k 0xFF
def optional (k : Nat) (f : Nat → List Byte) : Option Nat → List Byte
  | some n => f n
  | none => absent k
def o1 : Option Nat → List Byte := optional 1 b1
def o2 : Option Nat → List Byte := optional 2 b2
/-- A list: a count byte, then its items. -/
def bList {α : Type} (f : α → List Byte) (xs : List α) : List Byte :=
  b1 xs.length ++ xs.flatMap f
/-- A value with a presence byte before it (11.3). -/
def presence (k : Nat) : Option (List Byte) → List Byte
  | some bs => b1 1 ++ bs
  | none => b1 0 ++ absent k
/-- A signed value of three bytes, two's complement. -/
def signed3 (z : Int) : List Byte := b3 (BitVec.ofInt 24 z).toNat
/-- A set: bit i for the value at position i. -/
def bitsNat : List Bool → Nat
  | [] => 0
  | b :: bs => (if b then 1 else 0) + 2 * bitsNat bs

def Holds.bytes (x : Holds) : List Byte :=
  b1 (bitsNat [x.defect, x.dispatch, x.fuelOwed, x.fuelUnconfirmed])

/-- A place: kind, number (0 for APRON), position. -/
def Place.bytes (p : Place) (position : Nat) : List Byte :=
  match p with
  | .apron => b1 0 ++ b1 0 ++ b1 position
  | .island n => b1 1 ++ b1 n ++ b1 position
  | .wash n => b1 2 ++ b1 n ++ b1 position
  | .lane n => b1 3 ++ b1 n ++ b1 position

/-- A target or a movement's destination: kind, number (0 for GATE). -/
def Target.bytes : Target → List Byte
  | .island n => b1 1 ++ b1 n
  | .wash n => b1 2 ++ b1 n
  | .lane n => b1 3 ++ b1 n
  | .gate => b1 4 ++ b1 0

def optTarget : Option Target → List Byte
  | some t => t.bytes
  | none => absent 2

/-- A lock: free is absent; a movement is handle, direction, destination, absent for INBOUND. -/
def lockBytes : Option Movement → List Byte
  | none => absent 4
  | some (.inbound h) => b1 h ++ b1 0 ++ absent 2
  | some (.outbound h d) => b1 h ++ b1 1 ++ d.bytes

/-- A directive: kind byte and four argument bytes (11.5). -/
def Directive.bytes : Directive → List Byte
  | .blank => [0, 0, 0, 0, 0]
  | .go .apron => [1, 0, 0, 0, 0]
  | .go (.island n) => [1, 1, byte n, 0, 0]
  | .go (.wash n) => [1, 2, byte n, 0, 0]
  | .go (.lane n) => [1, 3, byte n, 0, 0]
  | .authorise l f => [2] ++ b2 l ++ b2 f
  | .stop => [3, 0, 0, 0, 0]
  | .washStart p => [4, byte p, 0, 0, 0]
  | .call f => [5] ++ b2 f ++ [0, 0]

/-- A one-shot reply: reply kind and refusal reason (11.5). -/
def replyBytes : Option Reply → List Byte
  | none => [0, 0]
  | some .accept => [1, 0]
  | some (.refuse r) => [2, byte r.code]
  | some .repeatCodes => [3, 0]
  | some .closed => [4, 0]

end Sys2Proof.Machine
end

