-- ==== Sys2Proof/Machine/Flags.lean ====
section
/-!
DEFINITION. What the manual derives from the state and does not hold: wash due, stock flags, available amounts, keys, readiness, positions, inversion counts, the attention conditions, ATTN and CPRDY.
-/
namespace Sys2Proof.Machine

/-! Fleet Register -/

/-- A vehicle is wash due when its interval is not 0 and its age has reached it (R36). -/
def Entry.washDue (e : Entry) : Bool := e.interval != 0 && e.interval ≤ e.age

/-! Stock Monitor -/

/-- Whole part of level × capacity / 16 (R4). -/
def Tank.lowAmount (t : Tank) : Nat := t.lowLevel * t.capacity / 16
def Tank.reserveAmount (t : Tank) : Nat := t.reserveLevel * t.capacity / 16

/-- The tank with its flags and its STOCK-LOW latch after the comparison of R103; the flags of t are those before it. -/
def Tank.compare (t : Tank) : Tank :=
  let low : Bool := t.stock ≤ t.lowAmount
  let reserve : Bool := t.stock ≤ t.reserveAmount
  { t with
    lowFlag := low, reserveFlag := reserve
    lowLatch := if low && !t.lowFlag then t.lowLatch <|> some t.stock else t.lowLatch }

/-- A tank takes a new stock, capacity or levels: the comparison of R103, and a capacity report where the reserve flag clears. -/
def State.compareStock (s : State) (k : FuelKind) (t : Tank) : State :=
  let s := s.setTank k t.compare
  if t.reserveFlag && !t.compare.reserveFlag then s.reportCapacity else s

/-- available(r) for a record with or without priority (R102). -/
def Tank.available (t : Tank) (priority : Bool) : Nat :=
  if priority then t.stock - t.committed else t.stock - t.committed - t.reserveAmount

/-! Keys and time to pull-out -/

/-- A roster in ARMED or ACTIVE gives keys (R143). -/
def Roster.givesKeys (r : Roster) : Bool := r.state == .armed || r.state == .active

/-- The time to pull-out of a duty (00, Departure key and time to pull-out). -/
def State.timeToPullOut (s : State) (d : Duty) : Int :=
  if s.roster.state = .armed then (Config.daySeconds : Int) - s.clock.second + d.pullOut
  else (d.pullOut : Int) - s.clock.second

/-- The duty a record is bound to. -/
def State.dutyOf (s : State) (v : Visit) : Option Duty := v.duty.bind s.duty

/-- The departure key of a record (R126). -/
def State.keyOfVisit (s : State) (v : Visit) : Nat :=
  if s.roster.givesKeys then
    match s.dutyOf v with
    | some d => d.pullOut
    | none => Config.unbound
  else Config.unbound

def State.key (s : State) (h : Nat) : Nat :=
  match s.visit h with
  | some v => s.keyOfVisit v
  | none => Config.unbound

/-- A priority record: bound in an ARMED or ACTIVE roster with its pull-out within the horizon (R102). -/
def State.priority (s : State) (v : Visit) : Bool :=
  s.roster.givesKeys &&
    match s.dutyOf v with
    | some d => decide (s.timeToPullOut d ≤ s.times.horizon)
    | none => false

/-- The call time of a duty: the greater of 0 and pull-out minus call lead (R144). -/
def State.callTime (s : State) (d : Duty) : Nat := d.pullOut - s.times.callLead

/-! Readiness (R51) -/

def Visit.fuelSatisfied (v : Visit) : Bool :=
  v.fuelResult == .done || v.fuelResult == .full || v.need == some 0 || v.skipFuel

def Visit.washSatisfied (v : Visit) : Bool :=
  v.washResult == .notDue || v.washResult == .full || v.washResult == .short
    || v.washResult == .skipped

def Visit.standing (v : Visit) : Bool := v.state == .parked || v.state == .called

/-- READY (R51). -/
def Visit.ready (v : Visit) : Bool :=
  v.standing && v.holds == Holds.none && v.fuelSatisfied && v.washSatisfied

def State.isReady (s : State) (h : Nat) : Bool :=
  match s.visit h with
  | some v => v.ready
  | none => false

/-- A record is compatible with a duty by its register entry (R144). -/
def Entry.compatible (e : Entry) (d : Duty) : Bool :=
  e.length == d.length &&
    match d.fuelSet with
    | .either => true
    | .diesel => e.fuel == .diesel
    | .gas => e.fuel == .gas

def State.compatible (s : State) (h : Nat) (d : Duty) : Bool :=
  match s.visit h with
  | some v =>
    match s.entry v.fleet with
    | some e => e.compatible d
    | none => false
  | none => false

/-! Positions and order in a lane (R127) -/

def indexIn (x : Nat) (xs : List Nat) : Option Nat := xs.findIdx? (· == x)

/-- The list of a place, as handles (R42). -/
def State.listAt (s : State) : Place → List Nat
  | .apron => s.router.apron.map (·.handle)
  | .island n => match s.island n with | some i => i.queue | none => []
  | .wash n => match s.wash n with | some w => w.list | none => []
  | .lane n => match s.lane n with | some l => l.list | none => []

/-- The position of a record in its place (R42). -/
def State.position (s : State) (h : Nat) : Option Nat :=
  match s.visit h with
  | some v => v.place.bind fun p => indexIn h (s.listAt p)
  | none => none

/-- The lane a record stands in. -/
def State.laneNumberOf (s : State) (h : Nat) : Option Nat :=
  match s.visit h with
  | some v =>
    match v.place with
    | some (.lane n) => some n
    | _ => none
  | none => none

/-- The number of keys of a list greater than k. -/
def laterKeys (k : Nat) (ks : List Nat) : Nat := (ks.filter (fun x => decide (k < x))).length

/-- The number of pairs i less than j with the key at i greater than the key at j (R127). -/
def inversionsOf : List Nat → Nat
  | [] => 0
  | k :: ks => (ks.filter (fun x => decide (x < k))).length + inversionsOf ks

/-- The inversion count of a lane (R127). -/
def State.inversions (s : State) (n : Nat) : Nat :=
  match s.lane n with
  | some l => inversionsOf (l.list.map s.key)
  | none => 0

/-- The sum over all defined lanes (R127, R180). -/
def State.inversionSum (s : State) : Nat := ((oneTo 20).map s.inversions).sum

/-- The late-blocker count of a record in a lane list: the records in front of it with a greater key (R127). -/
def State.lateBlockers (s : State) (list : List Nat) (h : Nat) : Nat :=
  laterKeys (s.key h) ((list.takeWhile (· != h)).map s.key)

/-! Attention (R181) -/

/-- The pending state of the twelve conditions, in order (11.4). -/
def State.conditions (s : State) : List Bool :=
  let records := s.visits.toList.filterMap id
  [ records.any (·.state == .astray),
    s.beams.toList.any (·.stray),
    s.islands.toList.any (fun i => i.map (·.state) == some .check),
    s.washes.toList.any (fun w => w.map (·.state) == some .fault),
    s.attention.dutyMissed.isSome,
    s.roster.duties.any (fun d => d.state.reason.isSome),
    s.diesel.reserveFlag || s.gas.reserveFlag,
    s.diesel.lowLatch.isSome || s.gas.lowLatch.isSome,
    records.any (·.holds.fuelOwed),
    s.line.stations.toList.any (fun t => t.map (·.presence) == some .offline),
    Config.apronSize ≤ s.router.apron.length || !s.router.exitHeld.isEmpty,
    s.attention.planEnded.isSome ]

/-- The pending set: nothing is pending in HALTED (R14, R181). -/
def State.pendingSet (s : State) : BitVec 12 :=
  if s.phase = .halted then 0 else BitVec.ofNat 12 (bitsNat s.conditions)

/-- The number of the lowest bit set, counted from i; 0 when there is none. -/
def lowestSet (x : BitVec 12) : Nat :=
  match (upTo 12).find? fun i => x.getLsbD i with
  | some i => i + 1
  | none => 0

/-- The highest condition: the lowest-numbered one pending and enabled, or 0 (R181). -/
def State.highest (s : State) : Nat := lowestSet (s.pendingSet &&& s.attention.enables)

/-- The ATTN pin (R9, R181). -/
def State.attn (s : State) : Bool :=
  s.boot == .running && s.attention.master && s.pendingSet &&& s.attention.enables != 0

/-- The CPRDY pin: active while an answer is held (R177, R178). -/
def State.cprdy (s : State) : Bool := s.port.held.isSome

end Sys2Proof.Machine
end

