-- ==== Sys2Proof/Machine/Duties.lean ====
section
/-!
DEFINITION. The Roster Unit's shared operations: binding, the call check with auto-bind and auto-swap, the withdrawal of a call, misses and the close, the re-test of held duties and the stale mark at the end of an event.
-/
namespace Sys2Proof.Machine

/-! Binding (R150): both sides at one event -/

def State.bindDuty (s : State) (slot h : Nat) : State :=
  (s.modDuty slot fun d => { d with bound := some h }).modVisit h fun v => { v with duty := some slot }

def State.unbindDuty (s : State) (slot : Nat) : State :=
  match s.duty slot with
  | some d =>
    match d.bound with
    | some h =>
      (s.modVisit h fun v => { v with duty := none }).modDuty slot fun d => { d with bound := none }
    | none => s
  | none => s

def State.setDutyState (s : State) (slot : Nat) (x : DutyState) : State :=
  s.modDuty slot fun d => { d with state := x }

def State.holdDuty (s : State) (slot : Nat) (r : HeldReason) : State := s.setDutyState slot (.held r)

/-! Order of duties (R154): ascending pull-out, ties by ascending slot -/

def insertBy (f : Nat → Nat) (x : Nat) : List Nat → List Nat
  | [] => [x]
  | y :: ys => if f x < f y then x :: y :: ys else y :: insertBy f x ys

def State.pullOutOf (s : State) (slot : Nat) : Nat :=
  match s.duty slot with
  | some d => d.pullOut
  | none => 0

def State.slotsByPullOut (s : State) : List Nat :=
  (upTo s.roster.duties.length).foldl (fun acc x => insertBy s.pullOutOf x acc) []

/-! The call (R158) -/

/-- A CALLED record leaves CALLED without departing: PARKED, no movement, exit lock freed, CALL directive replaced (R53, R158). -/
def State.uncall (s : State) (h : Nat) : State :=
  let s1 := s.modVisit h fun v => { v with state := .parked, movement := none }
  match s.laneNumberOf h with
  | none => s1
  | some n => (s1.freeExitLock n h).postAt .lanePost n .blank

/-- Step 7 of a call check (R158). -/
def State.callDuty (s : State) (slot h n : Nat) : State :=
  let fleet := match s.visit h with | some v => v.fleet | none => 0
  let s := s.setDutyState slot .called
  let s := s.modVisit h fun v => { v with state := .called, movement := some .gate }
  let s := s.modLane n fun l => l.setExitLock (some (.outbound h .gate))
  s.postAt .lanePost n (.call fleet)

/-- Steps 6 and 7 of a call check, for a record at position 0 of lane n (R155). -/
def State.finishCall (s : State) (slot h n : Nat) : State :=
  match s.lane n with
  | some l =>
    if l.exitLock.isSome then s.holdDuty slot .mouthBusy else s.callDuty slot h n
  | none => s.holdDuty slot .inService

/-- Auto-swap (R157): the checked duty takes the record c at position 0; the duty of c, if any, takes r. -/
def State.autoSwap (s : State) (slot : Nat) (d : Duty) (r c : Nat) : Option State :=
  match s.visit c with
  | none => none
  | some vc =>
    if vc.ready && s.compatible c d then
      match vc.duty with
      | none =>
        some (((s.unbindDuty slot).bindDuty slot c).modDuty slot fun d => { d with swapped := true })
      | some other =>
        match s.duty other with
        | none => none
        | some e =>
          if (e.state == .bound || e.state.reason.isSome) && decide (d.pullOut < e.pullOut)
              && s.compatible r e then
            let s := (s.bindDuty slot c).bindDuty other r
            let s := s.modDuty slot fun d => { d with swapped := true }
            some (s.modDuty other fun d => { d with swapped := true })
          else none
    else none

/-- Steps 2 to 7 of a call check of a duty bound to r (R155). -/
def State.checkBound (s : State) (slot : Nat) (d : Duty) (r : Nat) : State :=
  match s.visit r with
  | none => s.holdDuty slot .inService
  | some v =>
    if v.state ≠ .parked then s.holdDuty slot .inService
    else if !v.ready then s.holdDuty slot .notReady
    else
      match s.laneNumberOf r with
      | none => s.holdDuty slot .inService
      | some n =>
        match s.lane n with
        | none => s.holdDuty slot .inService
        | some l =>
          if l.state = .shut then s.holdDuty slot .laneShut
          else
            match l.list with
            | [] => s.holdDuty slot .inService
            | c :: _ =>
              if c = r then s.finishCall slot r n
              else if s.times.autoSwap then
                match s.autoSwap slot d r c with
                | some s' => s'.finishCall slot c n
                | none => s.holdDuty slot .blocked
              else s.holdDuty slot .blocked

/-- The record auto-bind takes for a duty: unbound, compatible, READY, at position 0 of a lane that is not SHUT and whose exit lock is free; the lowest fleet number (R156). -/
def State.autoBindPick (s : State) (d : Duty) : Option Nat :=
  leastBy (fun h => match s.visit h with | some v => v.fleet | none => 0)
    ((oneTo 20).filterMap fun n =>
      match s.lane n with
      | some l =>
        match l.list with
        | h :: _ =>
          match s.visit h with
          | some v =>
            if l.state ≠ .shut ∧ l.exitLock.isNone ∧ v.duty.isNone ∧ v.ready ∧ s.compatible h d
            then some h else none
          | none => none
        | [] => none
      | none => none)

/-- Auto-bind binds a record to a duty, whose swapped flag is left clear (R156). -/
def State.autoBindTo (s : State) (slot h : Nat) : State :=
  (s.bindDuty slot h).modDuty slot fun d => { d with swapped := false }

/-- A call check (R155), from step 1. -/
def State.callCheck (s : State) (slot : Nat) : State :=
  match s.duty slot with
  | none => s
  | some d =>
    match d.bound with
    | some r => s.checkBound slot d r
    | none =>
      if s.times.autoBind then
        match s.autoBindPick d with
        | some h => (s.autoBindTo slot h).checkBound slot d h
        | none => s.holdDuty slot .uncovered
      else s.holdDuty slot .uncovered

/-! Re-tests (R159) -/

def State.isHeld (s : State) (slot : Nat) : Bool :=
  match s.duty slot with
  | some d => d.state.reason.isSome
  | none => false

def State.boundOf (s : State) (slot : Nat) : Option Nat := (s.duty slot).bind (·.bound)

/-- The other HELD duties whose binding changed between two states: the duty an auto-swap gave another record (R157). -/
def swappedDuties (s0 s1 : State) (slot : Nat) : List Nat :=
  (upTo s1.roster.duties.length).filter fun x =>
    x != slot && s1.isHeld x && s0.boundOf x != s1.boundOf x

/-- A call check, and after it the re-test of the duty it swapped with, if that one is HELD (R157). -/
def State.callCheckFollowed (s : State) (slot : Nat) : State :=
  let s1 := s.callCheck slot
  (swappedDuties s s1 slot).foldl State.callCheck s1

/-- A re-test: the call check of a duty that is HELD (R159). -/
def State.retest (s : State) (slot : Nat) : State :=
  if s.isHeld slot then s.callCheckFollowed slot else s

/-- What the Visit Table passes to the Roster Unit of a record (R45). -/
def State.passed (s : State) (h : Nat) :
    Option (VisitState × Option Place × Option Nat × Holds × Bool × Bool × FuelResult × WashResult) :=
  (s.visit h).map fun v =>
    (v.state, v.place, s.position h, v.holds, v.skipFuel, v.skipWash, v.fuelResult, v.washResult)

/-- A lock change that is passed to the Roster Unit: freed, or claimed by a MOVE or RECALL (R137, R140; log 17). -/
def lockPassed (old new : Option Movement) : Bool :=
  match old, new with
  | some m, new => new != some m
  | none, some (.outbound _ d) => d != .gate
  | none, _ => false

/-- A lane change that is passed to the Roster Unit (R140). -/
def lanePassed (s0 s1 : State) (n : Nat) : Bool :=
  match s0.lane n, s1.lane n with
  | some a, some b =>
    a.list != b.list || a.state != b.state || lockPassed a.mouth b.mouth || lockPassed a.far b.far
  | _, _ => false

/-- The trigger of HELD(UNCOVERED) duties with auto-bind ON (R159). -/
def uncoveredTrigger (s0 s1 : State) : Bool :=
  (oneTo 20).any fun n =>
    match s1.lane n with
    | some l =>
      match l.list with
      | h :: _ =>
        s1.isReady h &&
          (!s0.isReady h ||
            (((s1.visit h).bind (·.duty)).isNone &&
              (((s0.visit h).bind (·.duty)).isSome ||
                ((s0.lane n).bind fun l => l.list.head?) != some h ||
                (((s0.lane n).bind Lane.exitLock).isSome && l.exitLock.isNone))))
      | [] => false
    | none => false

/-- Whether an event that led from s0 to s1 brings a trigger of R159 to a HELD duty. -/
def triggered (s0 s1 : State) (slot : Nat) : Bool :=
  match s1.duty slot with
  | none => false
  | some d =>
    match d.state.reason with
    | none => false
    | some reason =>
      s0.boundOf slot != d.bound ||
        match d.bound with
        | some h =>
          s0.passed h != s1.passed h ||
            match s1.laneNumberOf h with
            | some n => lanePassed s0 s1 n
            | none => false
        | none => reason == .uncovered && s1.times.autoBind && uncoveredTrigger s0 s1

/-- The re-tests of an event, in an ACTIVE roster, in ascending pull-out (R159). -/
def retests (s0 s1 : State) : State :=
  if s1.roster.state = .active then
    (s1.slotsByPullOut.filter (triggered s0 s1)).foldl State.retest s1
  else s1

/-! The stale mark (R164) -/

def State.laneList (s : State) (n : Nat) : List Nat := s.listAt (.lane n)

/-- Whether the list of the lane in which a duty's record stood or stands changed. -/
def laneListTouched (s0 s1 : State) (h : Nat) : Bool :=
  [s0.laneNumberOf h, s1.laneNumberOf h].any fun n =>
    match n with
    | some n => s0.laneList n != s1.laneList n
    | none => false

/-- Whether an event touches a duty already walked (R164). -/
def touchesWalked (s0 s1 : State) : Bool :=
  (s0.roster.plan.order.take s0.roster.plan.walk).any fun slot =>
    s0.boundOf slot != s1.boundOf slot ||
      match s0.boundOf slot with
      | some h => laneListTouched s0 s1 h
      | none => false

def State.setPlan (s : State) (p : Plan) : State := s.setRoster { s.roster with plan := p }

/-- The stale mark of a running sweep, at the end of an event that is not its own step (R164). -/
def markStale (s0 s1 : State) : State :=
  if s0.roster.plan.status = .running ∧ s1.roster.plan.status = .running ∧ touchesWalked s0 s1 then
    s1.setPlan { s1.roster.plan with stale := true }
  else s1

/-- The end of an event that led from s0 to s1: the stale mark for what the event changed, the re-tests, and the stale mark for what they changed. A duty that is unbound and bound again in one event is touched (R151, R159, R164). -/
def settle (s0 s1 : State) : State :=
  let s1 := markStale s0 s1
  markStale s1 (retests s0 s1)

/-! Misses and the close (R147, R161) -/

/-- One more duty is made MISSED since the latch was last reported (R161). -/
def MissedLatch.add (latch : Option MissedLatch) (number : Nat) : MissedLatch :=
  match latch with
  | some m => { m with count := min Config.missedCountCap (m.count + 1) }
  | none => { first := number, count := 1 }

def DutyState.missable : DutyState → Bool
  | .opened | .bound | .held _ | .called => true
  | .departing | .gone | .missed | .cancelled => false

/-- A duty becomes MISSED: a CALLED record leaves CALLED, the duty is unbound, DUTY-MISSED is latched (R161). -/
def State.miss (s : State) (slot : Nat) : State :=
  match s.duty slot with
  | none => s
  | some d =>
    let s :=
      match d.state, d.bound with
      | .called, some h => s.uncall h
      | _, _ => s
    let s := (s.unbindDuty slot).setDutyState slot .missed
    s.setAttention { s.attention with
      dutyMissed := some (MissedLatch.add s.attention.dutyMissed d.number) }

/-- The duties a close makes MISSED, in ascending pull-out (R147; log 20). -/
def State.missableSlots (s : State) : List Nat :=
  s.slotsByPullOut.filter fun slot =>
    match s.duty slot with
    | some d => d.state.missable
    | none => false

/-- A running sweep ends, and PLAN-ENDED is latched (R164). -/
def State.endPlan (s : State) (ending : PlanStatus) : State :=
  let p := s.roster.plan
  (s.setPlan { p with status := ending }).setAttention { s.attention with
    planEnded := some
      { ending := ending, bound := p.bound, uncovered := p.uncovered, unreachable := p.unreachable } }

/-- The roster closes, in one event (R147). -/
def State.closeRoster (s : State) : State :=
  let slots := s.missableSlots
  let s := s.setRoster { s.roster with
    state := .closed, closeDue := false, missesDue := [], checksDue := [] }
  let s := slots.foldl State.miss s
  if s.roster.plan.status = .running then s.endPlan .abandoned else s

/-! Withdrawal of a call (R53) -/

/-- A change has left a record; where the record is CALLED and no longer READY its call is withdrawn and its duty is HELD(NOT-READY) (R53). -/
def State.withdrawUnready (s : State) (h : Nat) : State :=
  match s.visit h with
  | some v =>
    if v.state = .called ∧ !v.ready then
      let s := s.uncall h
      match v.duty with
      | some slot => s.holdDuty slot .notReady
      | none => s
    else s
  | none => s

end Sys2Proof.Machine
end

