-- ==== Sys2Proof/Machine/Router.lean ====
section
/-!
DEFINITION. The Service Router's shared operations: stages, target queries, the placement engine, claims, the start of a turn and of a wash cycle, what follows a completion, and the dispatch scan.
-/
namespace Sys2Proof.Machine

/-! Stages (R71) -/

/-- The next stage by R71 for a record that is not the head of a wash lane in DRIPPING or DONE. -/
def nextStage (need : Option Nat) (fuel : FuelResult) (wash : WashResult) (skipFuel skipWash : Bool) :
    Stage :=
  if fuel = .unset ∧ !skipFuel ∧ need ≠ some 0 then .fuel
  else if wash = .unset ∧ !skipWash then .wash
  else .berth

def Visit.nextStage (v : Visit) : Stage :=
  Machine.nextStage v.need v.fuelResult v.washResult v.skipFuel v.skipWash

/-- What a target query reads of a record (R73, R74, R128). -/
structure Profile where
  fuel : FuelKind
  units : Nat
  key : Nat
  priority : Bool
  deriving DecidableEq, Repr

/-- The profile of a live record, by its register entry and its duty (R35). -/
def State.profile (s : State) (h : Nat) : Option Profile :=
  match s.visit h with
  | none => none
  | some v =>
    match s.entry v.fleet with
    | none => none
    | some e =>
      some { fuel := e.fuel, units := e.length.units, key := s.keyOfVisit v, priority := s.priority v }

/-! FUEL and WASH targets (R73, R74) -/

def Island.load (i : Island) : Nat := i.queue.length + i.reserved

/-- An island of the kind that is OPEN with room (R73). -/
def Island.offers (i : Island) (k : FuelKind) : Bool :=
  i.state == .opened && i.fuel == k && decide (i.load < Config.islandPlaces)

def State.islandOffers (s : State) (k : FuelKind) (n : Nat) : Bool :=
  match s.island n with
  | some i => i.offers k
  | none => false

def State.islandLoad (s : State) (n : Nat) : Nat :=
  match s.island n with
  | some i => i.load
  | none => 0

def State.fuelTarget (s : State) (p : Profile) : Option Nat :=
  if 0 < (s.tank p.fuel).available p.priority then
    leastBy s.islandLoad ((oneTo 6).filter (s.islandOffers p.fuel))
  else none

/-- Whether the fuel stage is skipped where no target is found (R73). -/
def State.fuelSkipped (s : State) (p : Profile) : Bool :=
  (oneTo 6).all (fun n => (s.island n).map (·.fuel) != some p.fuel) ||
    ((s.tank p.fuel).available p.priority == 0 && (oneTo 6).any (s.islandOffers p.fuel))

def WashLane.load (w : WashLane) : Nat := w.list.length + w.reserved

/-- A wash lane that is OPEN with a free entry lock and room (R74). -/
def WashLane.offers (w : WashLane) : Bool :=
  w.state == .opened && w.entryLock.isNone && decide (w.load < Config.washPlaces)

def State.washOffers (s : State) (n : Nat) : Bool :=
  match s.wash n with
  | some w => w.offers
  | none => false

def State.washTarget (s : State) : Option Nat :=
  leastBy (fun n => match s.wash n with | some w => w.load | none => 0)
    ((oneTo 3).filter s.washOffers)

/-! The placement engine (R128, R129) -/

def Lane.room (l : Lane) : Nat := l.capacity - l.used - l.reserved

def Lane.candidate (l : Lane) (units : Nat) : Bool :=
  l.state == .opened && l.entryLock.isNone && decide (units ≤ l.room)

/-- The candidates for a record, ascending; a MOVE leaves out the record's own lane (R128). -/
def State.candidates (s : State) (units : Nat) (except : Option Nat) : List Nat :=
  (oneTo 20).filter fun n =>
    some n != except &&
      match s.lane n with
      | some l => l.candidate units
      | none => false

/-- The slack of a non-empty admissible candidate; none where it is empty or not admissible (R129). -/
def State.slack (s : State) (key n : Nat) : Option Nat :=
  match s.lane n with
  | none => none
  | some l =>
    match l.kind with
    | .stack =>
      match l.list.head? with
      | some h => if key ≤ s.key h then some (s.key h - key) else none
      | none => none
    | .through =>
      match l.list.getLast? with
      | some h => if s.key h ≤ key then some (key - s.key h) else none
      | none => none

/-- The inversions that the insertion of a key would add (R129). -/
def State.added (s : State) (key n : Nat) : Nat :=
  match s.lane n with
  | none => 0
  | some l =>
    match l.kind with
    | .stack => ((l.list.map s.key).filter (fun k => decide (k < key))).length
    | .through => ((l.list.map s.key).filter (fun k => decide (key < k))).length

/-- The lane the placement engine answers, by its three tiers (R129). -/
def State.placement (s : State) (units key : Nat) (except : Option Nat) : Option Nat :=
  let cs := s.candidates units except
  match leastBy (fun n => (s.slack key n).getD 0) (cs.filter fun n => (s.slack key n).isSome) with
  | some n => some n
  | none =>
    match leastBy (fun n => match s.lane n with | some l => l.capacity | none => 0)
        (cs.filter fun n => (s.laneList n).isEmpty) with
    | some n => some n
    | none => leastBy (s.added key) cs

/-- The target of a stage; a skip of the fuel stage is found by fuelSkipped (R73, R74). -/
def State.targetFor (s : State) (p : Profile) : Stage → Option Target
  | .fuel => (s.fuelTarget p).map .island
  | .wash => s.washTarget.map .wash
  | .berth => (s.placement p.units p.key none).map .lane

/-! Claims (R75) -/

def State.claim (s : State) (h units : Nat) : Target → State
  | .island n => s.modIsland n fun i => { i with reserved := i.reserved + 1 }
  | .wash n => s.modWash n fun w => { w with entryLock := some h, reserved := w.reserved + 1 }
  | .lane n => s.modLane n fun l =>
      { l.setEntryLock (some (.inbound h)) with reserved := l.reserved + units }
  | .gate => s

/-! What the Router answers a record (R73, R76) -/

/-- The stage a record has reached and its target: where the fuel stage is skipped the skip is written and the next stage is taken (R73). -/
structure Routing where
  state : State
  stage : Stage
  target : Option Target
  deriving DecidableEq, Repr

def State.routeFrom (s : State) (h : Nat) (p : Profile) (stage : Stage) : Routing :=
  match s.targetFor p stage with
  | some t => { state := s, stage := stage, target := some t }
  | none =>
    if stage = .fuel ∧ s.fuelSkipped p then
      let s := s.reportFuel h .owed
      let next := match s.visit h with | some v => v.nextStage | none => .berth
      { state := s, stage := next, target := s.targetFor p next }
    else { state := s, stage := stage, target := none }

/-! Turns and completions at an island (R91, R92, R95) -/

/-- The request of a turn (R91). -/
def Visit.request (v : Visit) (tankSize : Nat) : Nat :=
  match v.need with
  | some n => n - v.progress
  | none => tankSize - v.taken

/-- The head of the queue where a turn may start: QUEUED, no turn, the island not in CHECK (R91). -/
def State.startableHead (s : State) (n : Nat) : Option (Nat × Visit × Island) :=
  match s.island n with
  | none => none
  | some i =>
    if i.turn.isSome ∨ i.state = .check then none
    else
      match i.queue with
      | [] => none
      | h :: _ =>
        match s.visit h with
        | some v => if v.state = .atIsland .queued then some (h, v, i) else none
        | none => none

def State.setLast (s : State) (n : Nat) (x : Settlement) : State :=
  s.modIsland n fun i => { i with last := some x }

/-- A turn is created (R92). -/
def State.beginTurn (s : State) (n h : Nat) (v : Visit) (k : FuelKind) (limit : Nat) : State :=
  let t := s.tank k
  let s := s.setTank k { t with committed := t.committed + limit }
  let s := s.modIsland n fun i =>
    { i with turn := some { state := .atPump, limit := limit, idle := some s.times.idleTime,
                            overrun := false } }
  let s := s.setSub h (.atIsland .atPump)
  s.postAt .island n (.authorise limit v.fleet)

/-- A start with limit 0 creates no turn (R92). -/
def State.limitZero (s : State) (n h : Nat) (v : Visit) : State :=
  let s := s.reportFuel h .owed
  let s := s.setLast n
    { fleet := v.fleet, handle := h, ending := .limitZero, limit := 0, reported := none,
      settled := none, overrun := false, second := s.clock.second, result := some .owed }
  s.postAt .island n .stop

/-- The head of an island leaves towards a claimed target: the queue shortens, which is capacity, and GO is posted (R80, R89, R95). -/
def State.islandHeadLeaves (s : State) (n h : Nat) (t : Target) : State :=
  let s := s.modIsland n fun i => { i with queue := i.queue.filter (· != h) }
  let s := s.enterTransit h t
  let s := s.postAt .island n t.directive
  s.reportCapacity

/-- A request for a target: a scan that is due is taken first, as part of the event (R80). -/
def State.scanFirst (s : State) (scan : State → State) : State :=
  if s.router.scanPending then scan s else s

/-- The Island Controller asks for the head's next stage (R76, R95). The second part says whether the head left. -/
def islandAsk (scan : State → State) (n h : Nat) (s : State) : State × Bool :=
  let s := s.scanFirst scan
  match s.visit h, s.profile h with
  | some v, some p =>
    let r := s.routeFrom h p v.nextStage
    match r.target with
    | some t => (((r.state.claim h p.units t).islandHeadLeaves n h t), true)
    | none =>
      (((r.state.setSub h (.atIsland .done)).joinExitHeld h r.stage (.island n)), false)
  | _, _ => (s, false)

/-- The start of a turn at an island where its conditions hold; a start with limit 0 asks the Router, and when the head then leaves the next head starts. At most k starts, the queue holding at most 4 (R91, R92, R95). -/
def turnStarts (scan : State → State) : Nat → Nat → State → State
  | 0, _, s => s
  | k + 1, n, s =>
    match s.startableHead n with
    | none => s
    | some (h, v, i) =>
      let tankSize := match s.entry v.fleet with | some e => e.tankSize | none => 0
      let limit := min (v.request tankSize) ((s.tank i.fuel).available (s.priority v))
      if limit = 0 then
        match islandAsk scan n h (s.limitZero n h v) with
        | (s, true) => turnStarts scan k n s
        | (s, false) => s
      else s.beginTurn n h v i.fuel limit

/-- Starts that one event can bring at one island: its queue holds at most 4 records (R89). -/
def startsPerIsland : Nat := 5

/-! Wash cycles (R113) -/

/-- A cycle starts where its four conditions hold (R113). -/
def State.startCycle (s : State) (n : Nat) : State :=
  match s.wash n with
  | none => s
  | some w =>
    match w.list with
    | [] => s
    | h :: _ =>
      match s.visit h with
      | none => s
      | some v =>
        if v.state = .atWash .queued ∧ !w.startPosted ∧ w.machineReady ∧ w.state ≠ .fault then
          let program := match s.entry v.fleet with | some e => e.program | none => 0
          let s := s.putWash n (some { w with startPosted := true, machineReady := false })
          s.postAt .wash n (.washStart program)
        else s

/-! The dispatch scan (R80) -/

/-- The effect of a dispatch by the entry's place (R80). -/
def State.dispatchTo (s : State) (scan : State → State) (e : WaitEntry) (units : Nat) (t : Target) :
    State :=
  let s := (s.claim e.handle units t).leaveWaitList e.handle
  match e.place with
  | .apron => s.enterTransit e.handle t
  | .island n => turnStarts scan startsPerIsland n (s.islandHeadLeaves n e.handle t)
  | .wash n =>
    match t with
    | .lane m => (s.modWash n fun w => { w with exitTarget := some m }).postAt .wash n t.directive
    | _ => s
  | .lane _ => s

/-- One entry of the walk: dispatched where its need can be met, left where it is otherwise (R80). An entry that has left the list since the walk began is not met. -/
def dispatchEntry (scan : State → State) (s : State) (e0 : WaitEntry) : State :=
  match s.waitEntry e0.handle with
  | none => s
  | some e =>
    match s.profile e.handle with
    | none => s
    | some p =>
      let r := s.routeFrom e.handle p e.need
      match r.target with
      | some t => r.state.dispatchTo scan e p.units t
      | none => if r.stage = e.need then r.state else r.state.setNeed e.handle r.stage

/-- A dispatch scan (R80). A completion inside the scan that finds the flag set takes a scan first; at most k scans stand inside one another (log 14). -/
def scanWithin : Nat → State → State
  | 0, s => s
  | k + 1, s =>
    let s := s.setRouter { s.router with scanPending := false }
    (s.router.exitHeld ++ s.router.apron).foldl (dispatchEntry (scanWithin k)) s

/-- Each scan inside a scan ends the turn of a QUEUED record, and 6 islands hold at most 24 (log 14). -/
def scanDepth : Nat := 25

def State.scan (s : State) : State := scanWithin scanDepth s

/-- The scan where the flag is set (R80). -/
def State.dueScan (s : State) : State := s.scanFirst State.scan

/-- The starts that an event brings at an island (R91). -/
def State.startTurn (s : State) (n : Nat) : State := turnStarts State.scan startsPerIsland n s

/-- The end of a turn: the Router is asked, and when the head leaves the next turn may start (R95). -/
def State.afterTurn (s : State) (n h : Nat) : State :=
  match islandAsk State.scan n h s with
  | (s, true) => s.startTurn n
  | (s, false) => s

/-! The wash head's berth (R115 steps 2 to 4, R119) -/

/-- The Wash Lane Controller asks for a berth for its head (R76; the stage is BERTH, log 15). -/
def State.askBerth (s : State) (n h : Nat) : State :=
  let s := s.dueScan
  match s.profile h with
  | none => s
  | some p =>
    match s.placement p.units p.key none with
    | some m =>
      let s := s.claim h p.units (.lane m)
      let s := s.modWash n fun w => { w with exitTarget := some m }
      s.postAt .wash n (.go (.lane m))
    | none => (s.joinExitHeld h .berth (.wash n)).postAt .wash n .stop

end Sys2Proof.Machine
end

