-- ==== Sys2Proof/Machine/Port.lean ====
section
/-!
DEFINITION. Taking a request at the Control Port (R177, R179), the phase test of R10, outcomes of owners, and the frames of answers (11.1). Also the transactions of the port that are no request to an owner.
-/
namespace Sys2Proof.Machine

/-- What a meaning answers. -/
abbrev Out := Host.Outcome State Fault Refusal

/-- An owner's outcome: the state its event leaves, the result, the data. -/
structure Outcome where
  state : State
  result : Result
  data : List Byte
  deriving DecidableEq, Repr

/-- OK with data. -/
def State.ok (s : State) (data : List Byte := []) : Outcome := ⟨s, .ok, data⟩
/-- A result other than OK: nothing is written, no data. -/
def State.refuse (s : State) (r : Result) : Outcome := ⟨s, r, []⟩

/-! The phases of the request groups (R10) -/

def inSetup (p : Phase) : Bool := p == .setup
def inOpen (p : Phase) : Bool := p == .opened
def inBoth (p : Phase) : Bool := p == .setup || p == .opened
def inAll (_ : Phase) : Bool := true

/-- The code of MORE (11.3). -/
def moreCode : Byte := 0x02

/-- A request is taken and its outcome stands in hand until ANSWER READY; an earlier answer is discarded, and its parts with it unless the request is MORE (R177). The next part that MORE is answered with stands under the code of the earlier request, and what remains of it stands with the outcome (R178, log 8). -/
def State.takeRequest (s : State) (a : Answer) : State :=
  s.setPort { s.port with
    inHand := some a, held := none, rest := if a.code = moreCode then s.port.rest else none }

/-- A request: discarded while RESETn is low (log 5) or another is in hand (R177); BUSY during the table check (R9); PHASE in a phase of its group marked no (R10); otherwise its owner's outcome. -/
def request (code : Byte) (phases : Phase → Bool) (owner : State → Outcome) (s : State) : State :=
  if s.port.inHand.isSome then s
  else
    match s.boot with
    | .resetLow => s
    | .checking => s.takeRequest ⟨code, .busy, []⟩
    | .running =>
      if phases s.phase then
        (owner s).state.takeRequest ⟨code, (owner s).result, (owner s).data⟩
      else s.takeRequest ⟨code, .phase, []⟩

/-- The length byte of an answer: bits 0..6 the data length, bit 7 set when more data follows (11.1). -/
def lengthByte (m : Nat) (more : Bool) : Byte := byte (m + if more then 128 else 0)

/-- An answer frame (11.1). -/
def answerFrame (a : Answer) (data : List Byte) (more : Bool) : List Byte :=
  withCheck ([a.code, byte a.result.code, lengthByte data.length more] ++ data)

/-- ANSWER READY (R177, R178): the frame of the request in hand is built and held, with the data beyond 64 bytes kept in parts. Parts that a refused MORE left stay. -/
def execAnswerReady (s : State) : Out :=
  .next <|
    match s.port.inHand with
    | none => s
    | some a =>
      let first := a.data.take Config.partSize
      let rest := a.data.drop Config.partSize
      s.setPort { s.port with
        inHand := none
        held := some (answerFrame a first (!rest.isEmpty))
        rest := if rest.isEmpty then s.port.rest else some { a with data := rest } }

/-- ANSWER READ (R178): the held frame is shifted out, as many bytes as are clocked; once its last byte has been sent it is held no longer. With no answer held, and after the last byte, 0x00 is sent (log 9). -/
def execAnswerRead (clocked : Nat) (s : State) : Out :=
  .next <|
    if s.boot = .resetLow then s
    else
      match s.port.held with
      | none => s.setPort { s.port with miso := List.replicate clocked 0 }
      | some frame =>
        let sent := frame.take clocked ++ List.replicate (clocked - frame.length) 0
        if frame.length ≤ clocked then s.setPort { s.port with held := none, miso := sent }
        else s.setPort { s.port with miso := sent }

/-- MORE (R178): the next part of the earlier answer, under its code and result; STATE where no part remains. -/
def execMore (s : State) : Out :=
  .next <|
    match s.port.rest with
    | none => request 0x02 inBoth (fun s => s.refuse .state) s
    | some a =>
      if s.port.inHand.isSome then s
      else
        match s.boot with
        | .resetLow => s
        | .checking => s.takeRequest ⟨0x02, .busy, []⟩
        | .running => if inBoth s.phase then s.takeRequest a else s.takeRequest ⟨0x02, .phase, []⟩

/-- A transaction that arrives while a request is in hand is discarded: no effect, no answer (R177). -/
def execRequestWhileInHand (_frame : List Byte) (s : State) : Out := .next s

/-- The phases of a request code that carries a mode byte (R10): the layout requests in SETUP, LOCATE and WASH RESET in OPEN. -/
def modePhases (code : Byte) : Phase → Bool :=
  if code = 0x33 ∨ code = 0x4A then inOpen else inSetup

/-- A request that fails a test of R179 on its form is answered CHECK, UNKNOWN or RANGE and changes nothing; one whose mode byte is in no list is tested against the phase and answered RANGE (log 8). A frame that is a request is not this event. -/
def execMalformedRequest (frame : List Byte) (s : State) : Out :=
  .next <|
    match decodeFrame frame with
    | .request _ | .noRequest => s
    | .badCheck code => request code inAll (fun s => s.refuse .check) s
    | .unknownCode code => request code inAll (fun s => s.refuse .unknown) s
    | .badLength code => request code inAll (fun s => s.refuse .range) s
    | .badMode code => request code (modePhases code) (fun s => s.refuse .range) s

/-- STATUS (R180). -/
def statusData (s : State) : List Byte :=
  b1 s.phase.code ++ bBool (!s.checkPassed) ++ bBool s.clock.isSet ++ b3 s.clock.second
    ++ b2 s.clock.day ++ b1 s.live.length ++ b1 s.router.apron.length
    ++ b1 s.router.exitHeld.length ++ b1 s.roster.state.code ++ b1 s.roster.plan.status.code
    ++ b2 s.inversionSum

def execStatus (s : State) : Out :=
  .next (request 0x01 inAll (fun s => s.ok (statusData s)) s)

end Sys2Proof.Machine
end

