-- ==== Sys2Proof/Machine/Attention.lean ====
section
/-!
DEFINITION. The attention requests (11.4, R182, R183).
-/
namespace Sys2Proof.Machine

/-- The set of latched lines, 6 bytes, most significant first (11.3, 11.4). -/
def lineSetBytes (s : State) : List Byte :=
  let n := bitsNat (s.beams.toList.map (·.stray))
  [byte (n / 1099511627776), byte (n / 4294967296), byte (n / 16777216), byte (n / 65536),
    byte (n / 256), byte n]

def strayDetail (s : State) : List Byte :=
  if s.beams.toList.any (·.stray) then lineSetBytes s else absent 6

/-- The first duty number and the count; absent as a whole where nothing is latched (11.3, 11.4). -/
def missedDetail (s : State) : List Byte :=
  match s.attention.dutyMissed with
  | some m => b2 m.first ++ b1 m.count
  | none => absent 3

/-- One tank's part of the STOCK-LOW detail; both tanks have one, DIESEL before GAS, and the part of a tank with no latch is absent (log 33). -/
def lowDetail (s : State) (k : FuelKind) : List Byte :=
  match (s.tank k).lowLatch with
  | some stock => b1 k.code ++ b2 stock
  | none => absent 3

/-- The ending, by its code as a plan status of R143, and the three counts (log 33). -/
def planDetail (s : State) : List Byte :=
  match s.attention.planEnded with
  | some p => b1 p.ending.code ++ b1 p.bound ++ b1 p.uncovered ++ b1 p.unreachable
  | none => absent 4

/-- The data of ATTENTION READ (R182, log 11). -/
def attentionData (s : State) : List Byte :=
  b2 s.pendingSet.toNat ++ b2 s.attention.enables.toNat ++ bBool s.attention.master
    ++ b1 s.highest ++ strayDetail s ++ missedDetail s ++ lowDetail s .diesel ++ lowDetail s .gas
    ++ planDetail s

/-- Every latch is cleared (R182). -/
def State.clearLatches (s : State) : State :=
  (((s.setBeams (s.beams.map fun b => { b with stray := false })).setDiesel
    { s.diesel with lowLatch := none }).setGas { s.gas with lowLatch := none }).setAttention
    { s.attention with dutyMissed := none, planEnded := none }

/-- ATTENTION READ (R182). -/
def execAttentionRead (s : State) : Out :=
  .next (request 0x78 inBoth (fun s => s.clearLatches.ok (attentionData s)) s)

/-- ATTENTION ENABLE (R183). -/
def execAttentionEnable (enables master : Nat) (s : State) : Out :=
  .next <| request 0x79 inBoth (fun s =>
    match decide (enables < 4096), boolOf master with
    | true, some m =>
      let s := s.setAttention
        { s.attention with enables := BitVec.ofNat 12 enables, master := m }
      s.ok (b2 s.pendingSet.toNat ++ b1 s.highest)
    | _, _ => s.refuse .range) s

end Sys2Proof.Machine
end

