-- ==== Sys2Proof/Machine/Visits.lean ====
section
/-!
DEFINITION. Visit records (chapter 4): admission, holds and route flags, transit expiry, LOCATE, retirement, and the reads of records. RECALL and WAIT LIST READ of chapter 5 stand here too.
-/
namespace Sys2Proof.Machine

/-! Admission (R46 to R50, R72) -/

/-- The fuel need of a keyed level: tank size × (8 − L) / 8, rounded up (R50). -/
def needOf (tankSize level : Nat) : Nat := (tankSize * (8 - level) + 7) / 8

/-- The first placement of a vehicle (R72). -/
structure Placement where
  need : Option Nat
  fuelResult : FuelResult
  washResult : WashResult
  stage : Stage
  target : Option Target
  deriving DecidableEq, Repr

/-- The wash decision (R72). -/
def State.washDecision (s : State) (e : Entry) : WashResult :=
  if (oneTo 3).all fun n => (s.wash n).isNone then .skipped
  else if e.washDue then .unset
  else .notDue

def State.firstPlacement (s : State) (e : Entry) (level : Option Nat) : Placement :=
  let p : Profile :=
    { fuel := e.fuel, units := e.length.units, key := Config.unbound, priority := false }
  let need := level.map (needOf e.tankSize)
  let wash := s.washDecision e
  let stage := nextStage need .unset wash false false
  match s.targetFor p stage with
  | some t => { need := need, fuelResult := .unset, washResult := wash, stage := stage, target := some t }
  | none =>
    if stage = .fuel ∧ s.fuelSkipped p then
      let next := nextStage need .owed wash false false
      { need := need, fuelResult := .owed, washResult := wash, stage := next,
        target := s.targetFor p next }
    else { need := need, fuelResult := .unset, washResult := wash, stage := stage, target := none }

/-- The record of an admission before it takes its place (R49). -/
def newVisit (s : State) (fleet : Nat) (pl : Placement) (defect : Bool) : Visit :=
  { fleet := fleet, state := .apron, place := some .apron, target := none, timer := none,
    movement := none, arrivalSecond := s.clock.second, arrivalDay := s.clock.day,
    need := pl.need, taken := 0, progress := 0, fuelResult := pl.fuelResult,
    washResult := pl.washResult, skipFuel := false, skipWash := false,
    holds := { Holds.none.afterFuel pl.fuelResult with defect := defect }, duty := none }

/-- The record is created in the slot, with the in-yard link (R49, R34). -/
def State.createVisit (s : State) (slot fleet : Nat) (pl : Placement) (defect : Bool) : State :=
  (s.putVisit slot (some (newVisit s fleet pl defect))).modEntry fleet
    fun e => { e with inYard := some slot }

/-- An accepted admission drops the station's pending fields (R46). -/
def State.dropPending (s : State) (a : Nat) : State :=
  s.modStation a fun t => { t with pendingLevel := none, pendingDefect := false }

/-- Checks 3 to 7 of an admission and its effects (R47, R49). -/
def State.admitVehicle (s : State) (a fleet : Nat) (level : Option Nat) (defect : Bool) : State × Reply :=
  match s.entry fleet with
  | none => (s, .refuse .unknownVehicle)
  | some e =>
    if e.barred then (s, .refuse .barred)
    else if e.inYard.isSome then (s, .refuse .duplicate)
    else
      match s.freeSlot with
      | none => (s, .refuse .yardFull)
      | some slot =>
        let s := s.dueScan
        let pl := s.firstPlacement e level
        match pl.target with
        | some t =>
          let s := s.createVisit slot fleet pl defect
          let s := (s.claim slot e.length.units t).enterTransit slot t
          ((s.dropPending a).post a t.directive, .accept)
        | none =>
          if s.router.apron.length < Config.apronSize then
            let s := (s.createVisit slot fleet pl defect).joinApron slot pl.stage
            ((s.dropPending a).post a (.go .apron), .accept)
          else (s, .refuse .wait)

/-! Holds and route flags (R52, R55, R56) -/

def Holds.put (x : Holds) (b : Bool) : Hold → Holds
  | .defect => { x with defect := b }
  | .dispatch => { x with dispatch := b }
  | .fuelOwed => { x with fuelOwed := b }
  | .fuelUnconfirmed => { x with fuelUnconfirmed := b }

/-- A hold is added or removed; a CALLED record that is then not READY loses its call (R52, R53). -/
def State.putHold (s : State) (h : Nat) (x : Hold) (b : Bool) : State :=
  (s.modVisit h fun v => { v with holds := v.holds.put b x }).withdrawUnready h

def holdsAnswer (s : State) (h : Nat) : List Byte :=
  match s.visit h with
  | some v => v.holds.bytes ++ bBool v.ready
  | none => absent 2

/-- HOLD SET (R55). The two holds that the host cannot set are answered RANGE before a free slot is answered NOT-FOUND (log 30). -/
def execHoldSet (handle hold : Nat) (s : State) : Out :=
  .next <| request 0x30 inOpen (fun s =>
    match within 0 127 handle, holdOf hold with
    | true, some .defect | true, some .dispatch =>
      if (s.visit handle).isNone then s.refuse .notFound
      else
        let x := if hold = 0 then Hold.defect else Hold.dispatch
        let s := settle s (s.putHold handle x true)
        s.ok (holdsAnswer s handle)
    | _, _ => s.refuse .range) s

/-- HOLD CLEAR (R55). -/
def execHoldClear (handle hold : Nat) (s : State) : Out :=
  .next <| request 0x31 inOpen (fun s =>
    match within 0 127 handle, holdOf hold with
    | true, some x =>
      if (s.visit handle).isNone then s.refuse .notFound
      else
        let s := settle s (s.putHold handle x false)
        s.ok (holdsAnswer s handle)
    | _, _ => s.refuse .range) s

/-- A record after ROUTE FLAGS (R56). -/
def Visit.withFlags (v : Visit) (f w : Bool) : Visit :=
  let skipped : Bool :=
    w && (v.washResult == .unset || v.washResult == .faulted) &&
      match v.state with
      | .toWash | .atWash _ => false
      | _ => true
  { v with skipFuel := f, skipWash := w,
           washResult := if skipped then .skipped else v.washResult }

def flagsAnswer (s : State) (h : Nat) : List Byte :=
  match s.visit h with
  | some v => b1 (bitsNat [v.skipFuel, v.skipWash]) ++ b1 v.washResult.code ++ bBool v.ready
  | none => absent 3

/-- ROUTE FLAGS (R56). -/
def execRouteFlags (handle skipFuel skipWash : Nat) (s : State) : Out :=
  .next <| request 0x32 inOpen (fun s =>
    match within 0 127 handle, boolOf skipFuel, boolOf skipWash with
    | true, some f, some w =>
      if (s.visit handle).isNone then s.refuse .notFound
      else
        let s := settle s ((s.modVisit handle (·.withFlags f w)).withdrawUnready handle)
        s.ok (flagsAnswer s handle)
    | _, _, _ => s.refuse .range) s

/-! Transit expiry (R59) -/

/-- The expiry of a record's transit timer, where it is due. -/
def State.transitExpiry (s : State) (h : Nat) : State :=
  match s.visit h with
  | some v =>
    if timerDue v.timer then
      let s' := match v.target with
        | some t => s.releaseTarget h (s.unitsOf h) t
        | none => s
      settle s (s'.goAstray h)
    else s
  | none => s

def execTransitExpiry (handle : Nat) (s : State) : Out :=
  .next (if s.boot = .running then s.transitExpiry handle else s)

/-! Retirement (R64, R65) -/

/-- The release of what a record holds at an island (R64). -/
def State.leaveIsland (s : State) (h : Nat) (v : Visit) (n : Nat) : State :=
  match s.island n with
  | none => s
  | some i =>
    let s :=
      match v.state, i.turn with
      | .atIsland .atPump, some t =>
        let tank := s.tank i.fuel
        let s := s.setTank i.fuel { tank with committed := tank.committed - t.limit }
        let s := s.modIsland n fun i => { i with turn := none }
        let s := s.setLast n
          { fleet := v.fleet, handle := h, ending := .retired, limit := t.limit, reported := none,
            settled := none, overrun := t.overrun, second := s.clock.second, result := none }
        s.postAt .island n .stop
      | _, _ => s
    let s := (s.leaveWaitList h).modIsland n fun i => { i with queue := i.queue.filter (· != h) }
    s.reportCapacity

/-- The release of what a record holds at a wash lane (R64, R113). -/
def State.leaveWash (s : State) (h units n : Nat) : State :=
  match s.wash n with
  | none => s
  | some w =>
    let s :=
      if w.list.head? = some h then
        let s :=
          if w.startPosted then
            (s.modWash n fun w => { w with startPosted := false, machineReady := true }).postAt
              .wash n .stop
          else s
        let s := match w.exitTarget with
          | some m => s.releaseInbound m h units
          | none => s
        s.modWash n fun w => { w with drip := none, exitTarget := none }
      else s
    let s := (s.leaveWaitList h).modWash n fun w => { w with list := w.list.filter (· != h) }
    s.reportCapacity

/-- The release of what a record holds in a berth lane: its place, and a pending movement with what its destination had reserved (R64). -/
def State.leaveLane (s : State) (h : Nat) (v : Visit) (units n : Nat) : State :=
  let s := match v.movement with
    | some t => (s.freeExitLock n h).releaseTarget h units t
    | none => s
  let s := if v.state = .called then s.postAt .lanePost n .blank else s
  let s := s.modLane n fun l => { l with list := l.list.filter (· != h), used := l.used - units }
  s.reportCapacity

/-- What the owners release at a retirement, by the record's state (R64). -/
def State.releaseHoldings (s : State) (h : Nat) (v : Visit) : State :=
  let units := s.unitsOf h
  match v.state, v.place, v.target with
  | .apron, _, _ => s.leaveWaitList h
  | .toIsland, _, some t | .toWash, _, some t | .toBerth, _, some t => s.releaseTarget h units t
  | .atIsland _, some (.island n), _ => s.leaveIsland h v n
  | .atWash _, some (.wash n), _ => s.leaveWash h units n
  | .parked, some (.lane n), _ | .called, some (.lane n), _ => s.leaveLane h v units n
  | _, _, _ => s

/-- The state of a duty whose record is retired by DEPART, or by the host (R65). -/
def State.dutyAfterRetirement (s : State) (d : Duty) (byDepart : Bool) : DutyState :=
  match d.state with
  | .departing => .gone
  | .called => .held .uncovered
  | .bound | .held _ =>
    if byDepart then .gone
    else if s.roster.state = .active ∧ s.callTime d ≤ s.clock.second then .held .uncovered
    else .opened
  | x => x

def State.unbindRetired (s : State) (v : Visit) (byDepart : Bool) : State :=
  match v.duty with
  | none => s
  | some slot =>
    match s.duty slot with
    | none => s
    | some d => (s.unbindDuty slot).setDutyState slot (s.dutyAfterRetirement d byDepart)

/-- The next head of a facility that the retired record stood at begins (R91, R113). -/
def State.afterLeaving (s : State) : Option Place → State
  | some (.island n) => s.startTurn n
  | some (.wash n) => s.startCycle n
  | _ => s

/-- The end of a visit: the slot is freed and everything the record holds is released (R64, R65). -/
def State.endVisit (s : State) (h : Nat) (byDepart : Bool) : State :=
  match s.visit h with
  | none => s
  | some v =>
    let s := (s.releaseHoldings h v).unbindRetired v byDepart
    let s := (s.putVisit h none).modEntry v.fleet fun e => { e with inYard := none }
    s.afterLeaving v.place

/-- Retirement by the host, in one event (R64, R65). -/
def State.retireRecord (s : State) (h : Nat) : State := settle s (s.endVisit h false)

/-- RETIRE is refused for a head whose turn is DISPENSING or CHECK, and a head that is WASHING (R66). -/
def Visit.retirable (v : Visit) : Bool :=
  match v.state with
  | .atIsland .dispensing | .atIsland .check | .atWash .washing => false
  | _ => true

/-- RETIRE (R66). The record's state is sent as its byte alone (the model's choice, log 35). -/
def execRetire (handle : Nat) (s : State) : Out :=
  .next <| request 0x34 inOpen (fun s =>
    if !within 0 127 handle then s.refuse .range
    else
      match s.visit handle with
      | none => s.refuse .notFound
      | some v =>
        if !v.retirable then s.refuse .state
        else (s.retireRecord handle).ok (b2 v.fleet ++ b1 v.state.code ++ o1 v.duty)) s

/-! LOCATE (R61, R62, R160) -/

/-- A located record bound to a DEPARTING duty: in an ACTIVE roster the duty is HELD, for the re-test of the event; in another it is MISSED (R160). -/
def State.locatedDuty (s : State) (h : Nat) : State :=
  match (s.visit h).bind (·.duty) with
  | none => s
  | some slot =>
    match s.duty slot with
    | none => s
    | some d =>
      if d.state = .departing then
        if s.roster.state = .active then s.holdDuty slot .inService else s.miss slot
      else s

def placeAnswer (s : State) (h : Nat) : List Byte :=
  match s.visit h with
  | some v =>
    match v.place with
    | some p => p.bytes ((s.position h).getD 0)
    | none => absent 3
  | none => absent 3

/-- LOCATE with a lane (R61). -/
def execLocateLane (handle lane : Nat) (s : State) : Out :=
  .next <| request 0x33 inOpen (fun s =>
    if !within 0 127 handle || !within 1 20 lane then s.refuse .range
    else
      match s.visit handle, s.lane lane with
      | some v, some l =>
        let units := s.unitsOf handle
        if v.state ≠ .astray then s.refuse .state
        else if l.state = .shut then s.refuse .state
        else if l.exitLock.isSome then s.refuse .locked
        else if l.room < units then s.refuse .full
        else
          let s1 := s.arrive handle .parked (.lane lane)
          let s1 := s1.modLane lane fun l =>
            { l with list := handle :: l.list, used := l.used + units }
          let s := settle s (s1.locatedDuty handle)
          s.ok (placeAnswer s handle)
      | _, _ => s.refuse .notFound) s

/-- LOCATE with APRON (R62). -/
def execLocateApron (handle : Nat) (s : State) : Out :=
  .next <| request 0x33 inOpen (fun s =>
    if !within 0 127 handle then s.refuse .range
    else
      match s.visit handle with
      | none => s.refuse .notFound
      | some v =>
        if v.state ≠ .astray then s.refuse .state
        else if Config.apronSize ≤ s.router.apron.length then s.refuse .full
        else
          let s1 := (s.arrive handle .apron .apron).joinApron handle v.nextStage
          let s := settle s (s1.locatedDuty handle)
          s.ok (placeAnswer s handle)) s

/-- LOCATE with RETIRE (R62). -/
def execLocateRetire (handle : Nat) (s : State) : Out :=
  .next <| request 0x33 inOpen (fun s =>
    if !within 0 127 handle then s.refuse .range
    else
      match s.visit handle with
      | none => s.refuse .notFound
      | some v =>
        if v.state ≠ .astray then s.refuse .state
        else (s.retireRecord handle).ok (b2 v.fleet)) s

/-! Reads (R68, R69) -/

/-- The data of RECORD READ: the handle, the fields of R42 in order with sub-position and position, then key, readiness and duty (R68, log 11). -/
def recordData (s : State) (h : Nat) (v : Visit) : List Byte :=
  b1 h ++ b2 v.fleet ++ b1 v.state.code ++ o1 v.state.sub ++ placeAnswer s h
    ++ optTarget v.target ++ o2 v.timer ++ optTarget v.movement
    ++ b3 v.arrivalSecond ++ b2 v.arrivalDay ++ o2 v.need ++ b2 v.taken
    ++ b1 v.fuelResult.code ++ b1 v.washResult.code ++ b1 (bitsNat [v.skipFuel, v.skipWash])
    ++ v.holds.bytes ++ b3 (s.keyOfVisit v) ++ bBool v.ready ++ o1 v.duty
    ++ presence 2 ((s.dutyOf v).map fun d => b2 d.number)
    ++ o1 ((s.dutyOf v).map fun d => d.state.code)

/-- RECORD READ (R68). -/
def execRecordRead (handle : Nat) (s : State) : Out :=
  .next <| request 0x35 inOpen (fun s =>
    if !within 0 127 handle then s.refuse .range
    else
      match s.visit handle with
      | none => s.refuse .notFound
      | some v => s.ok (recordData s handle v)) s

/-- RECORD FIND (R69). -/
def execRecordFind (fleet : Nat) (s : State) : Out :=
  .next <| request 0x36 inOpen (fun s =>
    if !within 1 9999 fleet then s.refuse .range
    else
      match (s.entry fleet).bind (·.inYard) with
      | none => s.refuse .notFound
      | some h =>
        match s.visit h with
        | none => s.refuse .notFound
        | some v => s.ok (recordData s h v)) s

/-- RECORD SCAN (R69). -/
def execRecordScan (handle : Nat) (s : State) : Out :=
  .next <| request 0x37 inOpen (fun s =>
    if !within 0 127 handle then s.refuse .range
    else
      match s.live.find? (fun h => decide (handle ≤ h)) with
      | none => s.refuse .notFound
      | some h =>
        match s.visit h with
        | none => s.refuse .notFound
        | some v => s.ok (recordData s h v)) s

/-! RECALL and WAIT LIST READ (R83, R85) -/

/-- The target of a RECALL: the named facility, or for 0 the Router's choice (R83 test 6). -/
def State.recallTarget (s : State) (p : Profile) (service : Stage) (n : Nat) : Option Target :=
  match service with
  | .fuel =>
    if n = 0 then (s.fuelTarget p).map .island
    else if 0 < (s.tank p.fuel).available p.priority ∧ s.islandOffers p.fuel n then some (.island n)
    else none
  | .wash =>
    if n = 0 then s.washTarget.map .wash
    else if s.washOffers n then some (.wash n) else none
  | .berth => none

/-- The fuel need set afresh by a RECALL to FUEL (R83, R87). -/
def Visit.freshNeed (v : Visit) : Visit :=
  { v with
    need := match v.need with
      | some n => if v.progress < n then some (n - v.progress) else none
      | none => none
    progress := 0 }

/-- The range of a RECALL's facility number and whether a named facility is defined (R83 tests 1 and 2). -/
def recallNumberOk (service : Stage) (n : Nat) : Bool :=
  match service with
  | .fuel => within 0 6 n
  | .wash => within 0 3 n
  | .berth => false

def State.recallDefined (s : State) (service : Stage) (n : Nat) : Bool :=
  n == 0 ||
    match service with
    | .fuel => (s.island n).isSome
    | .wash => (s.wash n).isSome
    | .berth => false

/-- Whether a named island serves the vehicle's fuel kind (R83 test 3). -/
def State.recallKindOk (s : State) (p : Profile) (service : Stage) (n : Nat) : Bool :=
  match service, s.island n with
  | .fuel, some i => i.fuel == p.fuel
  | _, _ => true

/-- The effects of a RECALL whose tests have passed (R83). -/
def State.takeRecall (s : State) (h units n : Nat) (service : Stage) (t : Target) : State :=
  let s := s.claim h units t
  let s := s.modLane n fun l => l.setExitLock (some (.outbound h t))
  let s := s.modVisit h fun v => { v with movement := some t }
  if service = .fuel then s.modVisit h Visit.freshNeed else s

/-- The tests and effects of RECALL after a due scan (R83). -/
def State.recallBody (s : State) (handle service facility : Nat) : Outcome :=
  match serviceOf service with
  | none => s.refuse .range
  | some stage =>
    if !within 0 127 handle || !recallNumberOk stage facility then s.refuse .range
    else if !s.recallDefined stage facility then s.refuse .notFound
    else
      match s.visit handle, s.profile handle with
      | some v, some p =>
        match s.laneNumberOf handle with
        | none => s.refuse .state
        | some n =>
          match s.lane n with
          | none => s.refuse .state
          | some l =>
            if v.state ≠ .parked ∨ l.list.head? ≠ some handle
                ∨ s.recallKindOk p stage facility = false then s.refuse .state
            else if l.state = .shut then s.refuse .state
            else if l.exitLock.isSome then s.refuse .locked
            else
              match s.recallTarget p stage facility with
              | none => s.refuse .full
              | some t => (s.takeRecall handle p.units n stage t).ok t.bytes
      | _, _ => s.refuse .notFound

/-- RECALL (R83): a scan that is due is taken before the tests, and stands whatever they find. -/
def execRecall (handle service facility : Nat) (s : State) : Out :=
  .next <| request 0x38 inOpen (fun s =>
    let o := s.dueScan.recallBody handle service facility
    { o with state := settle s o.state }) s

def waitEntryBytes (s : State) (e : WaitEntry) : List Byte :=
  let fleet := match s.visit e.handle with | some v => v.fleet | none => 0
  b1 e.handle ++ b2 fleet ++ b1 e.need.code
    ++ e.place.bytes ((indexIn e.handle (s.listAt e.place)).getD 0) ++ b2 e.sequence

/-- WAIT LIST READ (R85). -/
def execWaitListRead (s : State) : Out :=
  .next <| request 0x39 inOpen (fun s =>
    s.ok (b1 s.router.exitHeld.length ++ b1 s.router.apron.length
      ++ bList (waitEntryBytes s) (s.router.exitHeld ++ s.router.apron))) s

end Sys2Proof.Machine
end

