-- ==== Sys2Proof/Machine/Islands.lean ====
section
/-!
DEFINITION. Fuel islands and tank stock (chapter 6): arrival, the turn protocol, CHECK and confirmation, the island requests, the stock requests.
-/
namespace Sys2Proof.Machine

/-! The codes of an island terminal: each answers the state and the reply -/

def State.islandHead (s : State) (n : Nat) : Option Nat :=
  match s.island n with
  | some i => i.queue.head?
  | none => none

def State.turnOf (s : State) (n : Nat) : Option Turn :=
  match s.island n with
  | some i => i.turn
  | none => none

/-- The record a fleet number names in the yard (R90, R135, R136). -/
def State.inYardOf (s : State) (fleet : Nat) : Option Nat := (s.entry fleet).bind (·.inYard)

/-- HERE at island n (R90). -/
def State.hereAt (s : State) (n fleet : Nat) : State × Reply :=
  match s.inYardOf fleet with
  | none => (s, .refuse .notExpected)
  | some h =>
    match s.visit h with
    | none => (s, .refuse .notExpected)
    | some v =>
      if v.state = .toIsland ∧ v.target = some (.island n) then
        let s := s.arrive h (.atIsland .queued) (.island n)
        let s := s.modIsland n fun i =>
          { i with queue := i.queue ++ [h], reserved := i.reserved - 1 }
        (s.reportCapacity.startTurn n, .accept)
      else (s, .refuse .notExpected)

/-- The idle timer of a turn in AT-PUMP or DISPENSING is reloaded (R93). -/
def State.reloadIdle (s : State) (n : Nat) : State :=
  s.modIsland n fun i =>
    match i.turn with
    | some t =>
      if t.state = .check then i
      else { i with turn := some { t with idle := some s.times.idleTime } }
    | none => i

/-- NOZZLE-OUT at island n (R93). -/
def State.nozzleOut (s : State) (n : Nat) : State × Reply :=
  match s.turnOf n with
  | none => (s, .refuse .notExpected)
  | some t =>
    match t.state with
    | .check => (s, .accept)
    | .dispensing => (s.reloadIdle n, .accept)
    | .atPump =>
      let s := (s.modIsland n fun i =>
        { i with turn := some { t with state := .dispensing } }).reloadIdle n
      match s.islandHead n with
      | some h => (s.setSub h (.atIsland .dispensing), .accept)
      | none => (s, .accept)

/-- The turn of an island ends: its limit is released from the committed amount, and a turn in CHECK returns its island to OPEN, which is capacity (R88, R94, R96, R98). -/
def State.releaseTurn (s : State) (n : Nat) (i : Island) (t : Turn) : State :=
  let tank := s.tank i.fuel
  let s := s.setTank i.fuel { tank with committed := tank.committed - t.limit }
  let s := s.modIsland n fun i => { i with turn := none }
  if i.state = .check then (s.modIsland n fun i => { i with state := .opened }).reportCapacity else s

/-- The fuel result of a settlement (R94). -/
def settledResult (full : Bool) (need : Option Nat) (progress : Nat) : FuelResult :=
  if full then .full
  else
    match need with
    | none => .done
    | some k => if k ≤ progress then .done else .part

/-- A settlement of the turn at island n by END or FULL with quantity q (R94). -/
def State.settleTurn (s : State) (n h : Nat) (v : Visit) (i : Island) (t : Turn) (full : Bool)
    (q : Nat) : State :=
  let q' := min q t.limit
  let result := settledResult full v.need (v.progress + q')
  let s := s.releaseTurn n i t
  let tank := s.tank i.fuel
  let s := s.compareStock i.fuel { tank with stock := tank.stock - q' }
  let s := s.modVisit h fun v => { v with taken := v.taken + q', progress := v.progress + q' }
  let s := s.reportFuel h result
  let s := s.setLast n
    { fleet := v.fleet, handle := h, ending := if full then .full else .ended, limit := t.limit,
      reported := some q, settled := some q', overrun := t.overrun || decide (t.limit < q),
      second := s.clock.second, result := some result }
  (s.postAt .island n .stop).afterTurn n h

/-- A turn ends without a quantity: abandoned from AT-PUMP, void from DISPENSING or CHECK (R96, R98). -/
def State.endUnsettled (s : State) (n h : Nat) (v : Visit) (i : Island) (t : Turn) : State :=
  let abandoned : Bool := t.state == .atPump
  let result := if abandoned then FuelResult.owed else .unconfirmed
  let s := (s.releaseTurn n i t).reportFuel h result
  let s := s.setLast n
    { fleet := v.fleet, handle := h, ending := if abandoned then .abandoned else .void,
      limit := t.limit, reported := none, settled := none, overrun := t.overrun,
      second := s.clock.second, result := some result }
  (s.postAt .island n .stop).afterTurn n h

/-- The head and the turn of an island that has both. -/
def State.headTurn (s : State) (n : Nat) : Option (Nat × Visit × Island × Turn) :=
  match s.island n with
  | none => none
  | some i =>
    match i.queue, i.turn with
    | h :: _, some t =>
      match s.visit h with
      | some v => some (h, v, i, t)
      | none => none
    | _, _ => none

/-- END and FULL at island n (R94). -/
def State.endCodeAt (s : State) (n : Nat) (full : Bool) (q : Nat) : State × Reply :=
  match s.headTurn n with
  | some (h, v, i, t) => (s.settleTurn n h v i t full q, .accept)
  | none => (s, .refuse .notExpected)

/-- VOID at island n (R96, R98). -/
def State.voidAt (s : State) (n : Nat) : State × Reply :=
  match s.headTurn n with
  | some (h, v, i, t) => (s.endUnsettled n h v i t, .accept)
  | none => (s, .refuse .notExpected)

/-! Idle expiry (R96, R97) -/

/-- The expiry of the idle timer of island n, where it is due. The Island Controller reads the yard second as the second event made it (R16, log 37). -/
def State.idleExpiry (s : State) (n : Nat) : State :=
  match s.headTurn n with
  | some (h, v, i, t) =>
    if timerDue t.idle then
      match t.state with
      | .atPump => settle s (s.atSecondEvent fun s => s.endUnsettled n h v i t)
      | .dispensing | .check =>
        settle s ((s.modIsland n fun i =>
          { i with state := .check, turn := some { t with state := .check, idle := none } }).setSub h
            (.atIsland .check))
    else s
  | none => s

def execIdleExpiry (island : Nat) (s : State) : Out :=
  .next (if s.boot = .running then s.idleExpiry island else s)

/-! Island requests (R88, R98, R100) -/

/-- ISLAND OPEN (R88). -/
def execIslandOpen (island : Nat) (s : State) : Out :=
  .next <| request 0x40 inOpen (fun s =>
    if !within 1 6 island then s.refuse .range
    else
      match s.island island with
      | none => s.refuse .notFound
      | some i =>
        match i.state with
        | .opened => s.ok
        | .closed => (s.putIsland island (some { i with state := .opened })).reportCapacity.ok
        | .check => s.refuse .state) s

/-- ISLAND CLOSE (R88). -/
def execIslandClose (island : Nat) (s : State) : Out :=
  .next <| request 0x41 inOpen (fun s =>
    if !within 1 6 island then s.refuse .range
    else
      match s.island island with
      | none => s.refuse .notFound
      | some i =>
        match i.state with
        | .opened => (s.putIsland island (some { i with state := .closed })).ok
        | .closed => s.ok
        | .check => s.refuse .state) s

/-- A last settlement: fleet number, handle, ending, limit, q, q', overrun, yard second, fuel result (R100). -/
def settlementBytes : Option Settlement → List Byte
  | none => absent 15
  | some x =>
    b2 x.fleet ++ b1 x.handle ++ b1 x.ending.code ++ b2 x.limit ++ o2 x.reported ++ o2 x.settled
      ++ bBool x.overrun ++ b3 x.second ++ o1 (x.result.map FuelResult.code)

def State.lastSettlement (s : State) (n : Nat) : Option Settlement :=
  match s.island n with
  | some i => i.last
  | none => none

/-- ISLAND CONFIRM with END or FULL (R98). -/
def execIslandConfirm (island ending quantity : Nat) (s : State) : Out :=
  .next <| request 0x42 inOpen (fun s =>
    if !within 1 6 island || !within 0 1 ending || !within 0 9999 quantity then s.refuse .range
    else
      match s.island island with
      | none => s.refuse .notFound
      | some i =>
        if i.state ≠ .check then s.refuse .state
        else
          let s := settle s (s.endCodeAt island (ending == 1) quantity).1
          s.ok (settlementBytes (s.lastSettlement island))) s

/-- ISLAND CONFIRM with VOID (R98). -/
def execIslandConfirmVoid (island : Nat) (s : State) : Out :=
  .next <| request 0x42 inOpen (fun s =>
    if !within 1 6 island then s.refuse .range
    else
      match s.island island with
      | none => s.refuse .notFound
      | some i =>
        if i.state ≠ .check then s.refuse .state
        else
          let s := settle s (s.voidAt island).1
          s.ok (settlementBytes (s.lastSettlement island))) s

def queueBytes (s : State) (h : Nat) : List Byte :=
  match s.visit h with
  | some v => b1 h ++ b2 v.fleet ++ o1 v.state.sub
  | none => b1 h ++ absent 3

def turnBytes : Option Turn → List Byte
  | some t => b1 t.state.code ++ b2 t.limit ++ o2 t.idle
  | none => absent 5

/-- The data of ISLAND READ (R100). -/
def islandData (s : State) (n : Nat) (i : Island) : List Byte :=
  let head := i.queue.head?.bind s.visit
  b1 i.fuel.code ++ o1 (s.stationOf .island n) ++ b1 i.state.code ++ b1 i.reserved
    ++ bList (queueBytes s) i.queue
    ++ o2 (head.bind (·.need)) ++ o2 (head.map (·.taken)) ++ o2 (head.map (·.progress))
    ++ turnBytes i.turn ++ settlementBytes i.last

/-- ISLAND READ (R100). -/
def execIslandRead (island : Nat) (s : State) : Out :=
  .next <| request 0x43 inOpen (fun s =>
    if !within 1 6 island then s.refuse .range
    else
      match s.island island with
      | none => s.refuse .notFound
      | some i => s.ok (islandData s island i)) s

/-! Stock requests (R104 to R106) -/

def flagBytes (t : Tank) : List Byte := bBool t.lowFlag ++ bBool t.reserveFlag

/-- TANK DELIVERY (R104). -/
def execTankDelivery (fuel quantity : Nat) (s : State) : Out :=
  .next <| request 0x44 inBoth (fun s =>
    match fuelOf fuel with
    | none => s.refuse .range
    | some k =>
      if !within 1 65535 quantity then s.refuse .range
      else
        let t := s.tank k
        let accepted := min quantity (t.capacity - t.stock)
        let s := s.compareStock k { t with stock := t.stock + accepted }
        s.ok (b2 accepted ++ b2 (quantity - accepted) ++ b2 (s.tank k).stock ++ flagBytes (s.tank k))) s

/-- TANK SET (R105). -/
def execTankSet (fuel stock : Nat) (s : State) : Out :=
  .next <| request 0x45 inBoth (fun s =>
    match fuelOf fuel with
    | none => s.refuse .range
    | some k =>
      let t := s.tank k
      if stock < t.committed ∨ t.capacity < stock then s.refuse .state
      else
        let s := s.compareStock k { t with stock := stock }
        s.ok (b2 (s.tank k).stock ++ b2 (s.tank k).committed ++ flagBytes (s.tank k))) s

/-- TANK READ (R106). -/
def execTankRead (fuel : Nat) (s : State) : Out :=
  .next <| request 0x46 inBoth (fun s =>
    match fuelOf fuel with
    | none => s.refuse .range
    | some k =>
      let t := s.tank k
      s.ok (b2 t.capacity ++ b2 t.stock ++ b2 t.committed ++ b1 t.lowLevel ++ b1 t.reserveLevel
        ++ b2 t.lowAmount ++ b2 t.reserveAmount ++ flagBytes t
        ++ b2 (t.available false) ++ b2 (t.available true))) s

end Sys2Proof.Machine
end

