-- ==== Sys2Proof/Machine/Washes.lean ====
section
/-!
DEFINITION. Wash lanes (chapter 7): entry, the cycle, drip, exit, faults and recovery, the wash requests.
-/
namespace Sys2Proof.Machine

/-- The head of a wash lane with its record. -/
def State.washHead (s : State) (n : Nat) : Option (Nat × Visit) :=
  match s.wash n with
  | none => none
  | some w =>
    match w.list with
    | [] => none
    | h :: _ => (s.visit h).map fun v => (h, v)

/-- STRAY-PASSAGE is latched for a line (R133). -/
def State.latchStray (s : State) (line : Nat) : State := s.modBeam line fun b => { b with stray := true }

/-! Entry (R111) -/

/-- The arrival of the record the entry lock names, where it is TO-WASH with this lane as its target (R111). -/
def State.washArrival (s : State) (n : Nat) : Option State :=
  match s.wash n with
  | none => none
  | some w =>
    match w.entryLock with
    | none => none
    | some h =>
      match s.visit h with
      | none => none
      | some v =>
        if v.state = .toWash ∧ v.target = some (.wash n) then
          let s := s.arrive h (.atWash .queued) (.wash n)
          let s := s.modWash n fun w =>
            { w with list := w.list ++ [h], entryLock := none, reserved := w.reserved - 1 }
          some (s.reportCapacity.startCycle n)
        else none

/-- ENTERED at wash lane n (R111). -/
def State.enteredAt (s : State) (n : Nat) : State × Reply :=
  if s.lineEnabled (.washEntry n) then (s, .refuse .notExpected)
  else
    match s.washArrival n with
    | some s' => (s', .accept)
    | none => (s, .refuse .notExpected)

/-! The cycle (R112 to R116) -/

/-- READY at wash lane n (R112). -/
def State.readyAt (s : State) (n : Nat) : State × Reply :=
  ((s.modWash n fun w => { w with machineReady := true }).startCycle n, .accept)

/-- CYCLE-ON at wash lane n (R114). -/
def State.cycleOnAt (s : State) (n : Nat) : State × Reply :=
  match s.wash n, s.washHead n with
  | some w, some (h, _) =>
    if w.startPosted then
      let s := s.modWash n fun w => { w with startPosted := false }
      ((s.setSub h (.atWash .washing)).postAt .wash n .blank, .accept)
    else (s, .refuse .notExpected)
  | _, _ => (s, .refuse .notExpected)

/-- What the expiry of a drip timer does to the head and its vehicle (R116, R38). -/
def State.dripDone (s : State) (n h fleet : Nat) : State :=
  let s := s.modVisit h fun v => { v with state := .atWash .done, washResult := .full }
  let s := s.modWash n fun w => { w with drip := none }
  s.modEntry fleet fun e => { e with age := 0 }

/-- CYCLE-DONE at wash lane n (R115): a drip time of 0 expires at the moment of loading. -/
def State.cycleDoneAt (s : State) (n : Nat) : State × Reply :=
  match s.washHead n with
  | some (h, v) =>
    if v.state = .atWash .washing then
      let s := s.setSub h (.atWash .dripping)
      let s := s.modWash n fun w => { w with drip := some s.times.dripTime }
      let s := if s.times.dripTime = 0 then s.dripDone n h v.fleet else s
      (s.askBerth n h, .accept)
    else (s, .refuse .notExpected)
  | none => (s, .refuse .notExpected)

/-- The expiry of the drip timer of wash lane n, where it is due (R116). -/
def State.dripExpiry (s : State) (n : Nat) : State :=
  match s.wash n, s.washHead n with
  | some w, some (h, v) =>
    if timerDue w.drip then settle s (s.dripDone n h v.fleet) else s
  | _, _ => s

def execDripExpiry (washLane : Nat) (s : State) : Out :=
  .next (if s.boot = .running then s.dripExpiry washLane else s)

/-! Exit (R117) -/

/-- What the head's leaving by the exit door does: TO-BERTH with an exit target, ASTRAY without; a drip still running makes the wash SHORT (R117). -/
def State.washLeave (s : State) (n h : Nat) (w : WashLane) (short : Bool) : State :=
  let s := if short then s.modVisit h fun v => { v with washResult := .short } else s
  let s := match w.exitTarget with
    | some m => s.enterTransit h (.lane m)
    | none => (s.leaveWaitList h).goAstray h
  let s := s.modWash n fun w =>
    { w with list := w.list.filter (· != h), drip := none, exitTarget := none }
  ((s.postAt .wash n .blank).reportCapacity).startCycle n

/-- The departure of the head of wash lane n, where it is DRIPPING or DONE (R117). -/
def State.washDeparture (s : State) (n : Nat) : Option State :=
  match s.wash n, s.washHead n with
  | some w, some (h, v) =>
    match v.state with
    | .atWash .dripping => some (s.washLeave n h w true)
    | .atWash .done => some (s.washLeave n h w false)
    | _ => none
  | _, _ => none

/-- EXITED at wash lane n (R117). -/
def State.exitedAt (s : State) (n : Nat) : State × Reply :=
  if s.lineEnabled (.washExit n) then (s, .refuse .notExpected)
  else
    match s.washDeparture n with
    | some s' => (s', .accept)
    | none => (s, .refuse .notExpected)

/-! Faults and recovery (R118, R119) -/

/-- FAULT at wash lane n (R118). -/
def State.faultAt (s : State) (n : Nat) : State × Reply :=
  match s.wash n with
  | none => (s, .refuse .notExpected)
  | some w =>
    if w.state = .fault then (s.putWash n (some { w with machineReady := false }), .accept)
    else
      let s1 := s.putWash n (some { w with state := .fault, machineReady := false, startPosted := false })
      match s.washHead n with
      | none => (s1, .accept)
      | some (h, v) =>
        if v.state = .atWash .washing then
          let s1 := s1.modVisit h fun v => { v with state := .atWash .halted, washResult := .faulted }
          (s1.postAt .wash n .stop, .accept)
        else if w.startPosted then (s1.postAt .wash n .stop, .accept)
        else (s1, .accept)

/-- A lane in FAULT is recovered: a HALTED head is restarted or released, the lane becomes OPEN, which is capacity, and a cycle may start (R113, R119; log 16). -/
def State.recover (s : State) (n : Nat) (release : Bool) : State :=
  let s : State :=
    match s.washHead n with
    | some (h, v) =>
      if v.state = VisitState.atWash .halted then
        if release then (s.setSub h (.atWash .done)).askBerth n h
        else s.modVisit h fun v => { v with state := .atWash .queued, washResult := .unset }
      else s
    | none => s
  ((s.modWash n fun w => { w with state := .opened }).reportCapacity).startCycle n

/-- FAULT-CLEAR at wash lane n with its number (R119). -/
def State.faultClearAt (s : State) (n number : Nat) : State × Reply :=
  match s.wash n with
  | none => (s, .refuse .notExpected)
  | some w =>
    if w.state = .fault ∧ within 1 2 number then (s.recover n (number == 2), .accept)
    else (s, .refuse .notExpected)

/-! Wash requests (R109, R119, R120) -/

/-- WASH OPEN (R109). -/
def execWashOpen (washLane : Nat) (s : State) : Out :=
  .next <| request 0x48 inOpen (fun s =>
    if !within 1 3 washLane then s.refuse .range
    else
      match s.wash washLane with
      | none => s.refuse .notFound
      | some w =>
        match w.state with
        | .opened => s.ok
        | .closed => (s.putWash washLane (some { w with state := .opened })).reportCapacity.ok
        | .fault => s.refuse .state) s

/-- WASH CLOSE (R109). -/
def execWashClose (washLane : Nat) (s : State) : Out :=
  .next <| request 0x49 inOpen (fun s =>
    if !within 1 3 washLane then s.refuse .range
    else
      match s.wash washLane with
      | none => s.refuse .notFound
      | some w =>
        match w.state with
        | .opened => (s.putWash washLane (some { w with state := .closed })).ok
        | .closed => s.ok
        | .fault => s.refuse .state) s

/-- The lane's state and its head's sub-position and wash result (R119). -/
def recoveryData (s : State) (n : Nat) : List Byte :=
  (match s.wash n with | some w => b1 w.state.code | none => absent 1)
    ++ (match s.washHead n with
        | some (_, v) => o1 v.state.sub ++ b1 v.washResult.code
        | none => absent 2)

/-- WASH RESET with a mode (R119). -/
def State.washReset (s : State) (n : Nat) (release : Bool) : Outcome :=
  if !within 1 3 n then s.refuse .range
  else
    match s.wash n with
    | none => s.refuse .notFound
    | some w =>
      if w.state ≠ .fault then s.refuse .state
      else
        let s := settle s (s.recover n release)
        s.ok (recoveryData s n)

/-- WASH RESET with RESTART (R119). -/
def execWashResetRestart (washLane : Nat) (s : State) : Out :=
  .next (request 0x4A inOpen (fun s => s.washReset washLane false) s)

/-- WASH RESET with RELEASE (R119). -/
def execWashResetRelease (washLane : Nat) (s : State) : Out :=
  .next (request 0x4A inOpen (fun s => s.washReset washLane true) s)

def washRowBytes (s : State) (h : Nat) : List Byte :=
  match s.visit h with
  | some v => b1 h ++ b2 v.fleet ++ o1 v.state.sub ++ b1 v.washResult.code
  | none => b1 h ++ absent 4

/-- The standing directive of a facility's station. -/
def directiveAt (s : State) (kind : StationKind) (n : Nat) : List Byte :=
  match (s.stationOf kind n).bind s.station with
  | some t => t.directive.bytes
  | none => absent 5

def State.exitHeldHead (s : State) (n : Nat) : Bool :=
  match s.washHead n with
  | some (h, _) => s.router.exitHeld.any (·.handle == h)
  | none => false

/-- The data of WASH READ (R120). Of several stations or lines of one role the lowest is reported (the model's choice, log 34). -/
def washData (s : State) (n : Nat) (w : WashLane) : List Byte :=
  o1 (s.stationOf .wash n) ++ o1 (s.lineOf (.washEntry n)) ++ o1 (s.lineOf (.washExit n))
    ++ b1 w.state.code ++ bBool w.machineReady ++ bBool w.startPosted
    ++ o1 w.entryLock ++ b1 w.reserved ++ bList (washRowBytes s) w.list
    ++ o2 w.drip ++ o1 w.exitTarget ++ bBool (s.exitHeldHead n) ++ directiveAt s .wash n

/-- WASH READ (R120). -/
def execWashRead (washLane : Nat) (s : State) : Out :=
  .next <| request 0x4B inBoth (fun s =>
    if !within 1 3 washLane then s.refuse .range
    else
      match s.wash washLane with
      | none => s.refuse .notFound
      | some w => s.ok (washData s washLane w)) s

/-! Passages on wash lines (R111, R117) -/

/-- A passage on a line is taken when the line is enabled, has a role and the yard is OPEN (R6, R130). -/
def State.takesPassage (s : State) (line : Nat) : Option BeamRole :=
  match s.beam line with
  | some b =>
    if s.boot = .running ∧ s.phase = .opened ∧ b.enabled then some b.role else none
  | none => none

def execWashEntryPassage (line : Nat) (s : State) : Out :=
  .next <|
    match s.takesPassage line with
    | some (.washEntry n) =>
      match s.washArrival n with
      | some s' => settle s s'
      | none => s.latchStray line
    | _ => s

def execWashExitPassage (line : Nat) (s : State) : Out :=
  .next <|
    match s.takesPassage line with
    | some (.washExit n) =>
      match s.washDeparture n with
      | some s' => settle s s'
      | none => s.latchStray line
    | _ => s

end Sys2Proof.Machine
end

