-- ==== Sys2Proof/Machine/Lanes.lean ====
section
/-!
DEFINITION. Berth lanes (chapter 8): arrivals and departures by passage or by lane post, stray passages, lane post defects, MOVE, lane states, beam flags, LANE READ.
-/
namespace Sys2Proof.Machine

/-! Arrivals and departures (R131, R132) -/

/-- The arrival at lane n of the record its entry lock names INBOUND, where that record is TO-BERTH with this lane as its target (R131). -/
def State.laneArrival (s : State) (n : Nat) : Option State :=
  match s.lane n with
  | none => none
  | some l =>
    match l.entryLock with
    | some (.inbound h) =>
      match s.visit h with
      | none => none
      | some v =>
        if v.state = VisitState.toBerth ∧ v.target = some (Target.lane n) then
          let units := s.unitsOf h
          let list := match l.kind with
            | .stack => h :: l.list
            | .through => l.list ++ [h]
          let s := s.putLane n (some
            { l.setEntryLock none with
              list := list, used := l.used + units, reserved := l.reserved - units })
          some (s.arrive h .parked (.lane n)).reportCapacity
        else none
    | _ => none

/-- The duty of a departing CALLED record becomes DEPARTING, and the lane post's directive NONE (R158, R160). -/
def State.departDuty (s : State) (n h : Nat) : State :=
  let s : State :=
    match (s.visit h).bind (·.duty) with
    | some slot => s.setDutyState slot .departing
    | none => s
  s.postAt .lanePost n .blank

/-- The departure from lane n of the record its exit lock names OUTBOUND (R132). -/
def State.laneDeparture (s : State) (n : Nat) : Option State :=
  match s.lane n with
  | none => none
  | some l =>
    match l.exitLock with
    | some (.outbound h d) =>
      let units := s.unitsOf h
      let s := s.putLane n (some
        { l.setExitLock none with list := l.list.filter (· != h), used := l.used - units })
      let s := s.enterTransit h d
      let s := if d = .gate then s.departDuty n h else s
      some s.reportCapacity
    | _ => none

/-! Passages (R130 to R133) -/

/-- A passage that is taken as the given movement, or else latches STRAY-PASSAGE for its line (R133). -/
def State.passage (s : State) (line : Nat) : Option State → State
  | some s' => settle s s'
  | none => s.latchStray line

/-- A passage on the mouth line of a STACK lane: an arrival or a departure by the direction of the movement that the mouth lock holds (R131, R132). -/
def execLaneMouthPassage (line : Nat) (s : State) : Out :=
  .next <|
    match s.takesPassage line with
    | some (.laneMouth n) => s.passage line (s.laneArrival n <|> s.laneDeparture n)
    | _ => s

/-- A passage on the entry line of a THROUGH lane (R131). -/
def execLaneEntryPassage (line : Nat) (s : State) : Out :=
  .next <|
    match s.takesPassage line with
    | some (.laneEntry n) => s.passage line (s.laneArrival n)
    | _ => s

/-- A passage on the exit line of a THROUGH lane (R132). -/
def execLaneExitPassage (line : Nat) (s : State) : Out :=
  .next <|
    match s.takesPassage line with
    | some (.laneExit n) => s.passage line (s.laneDeparture n)
    | _ => s

/-- A passage on a line whose role is NONE is discarded and leaves no trace (R6). -/
def execUnassignedLinePassage (_line : Nat) (s : State) : Out := .next s

/-! Lane posts (R135, R136) -/

/-- The role of the line that IN stands for at a lane. -/
def Lane.inboundRole (l : Lane) (n : Nat) : BeamRole :=
  match l.kind with
  | .stack => .laneMouth n
  | .through => .laneEntry n

/-- The role of the line that OUT stands for at a lane. -/
def Lane.outboundRole (l : Lane) (n : Nat) : BeamRole :=
  match l.kind with
  | .stack => .laneMouth n
  | .through => .laneExit n

/-- IN at the post of lane n (R135). -/
def State.inAt (s : State) (n fleet : Nat) : State × Reply :=
  match s.lane n with
  | none => (s, .refuse .notExpected)
  | some l =>
    if s.lineEnabled (l.inboundRole n) then (s, .refuse .notExpected)
    else
      match s.entry fleet with
      | none => (s, .refuse .unknownVehicle)
      | some e =>
        match e.inYard, s.laneArrival n with
        | some h, some s' =>
          if l.entryLock = some (.inbound h) then (s', .accept) else (s, .refuse .notExpected)
        | _, _ => (s, .refuse .notExpected)

/-- OUT at the post of lane n (R135). -/
def State.outAt (s : State) (n fleet : Nat) : State × Reply :=
  match s.lane n with
  | none => (s, .refuse .notExpected)
  | some l =>
    if s.lineEnabled (l.outboundRole n) then (s, .refuse .notExpected)
    else
      match s.entry fleet with
      | none => (s, .refuse .unknownVehicle)
      | some e =>
        match e.inYard, s.laneDeparture n with
        | some h, some s' =>
          if l.exitLock.map Movement.handle = some h then (s', .accept)
          else (s, .refuse .notExpected)
        | _, _ => (s, .refuse .notExpected)

/-- DEFECT (b true) and OK (b false) at the post of lane n (R136). -/
def State.defectAt (s : State) (n fleet : Nat) (b : Bool) : State × Reply :=
  match s.entry fleet with
  | none => (s, .refuse .unknownVehicle)
  | some e =>
    match e.inYard with
    | none => (s, .refuse .notExpected)
    | some h =>
      if h ∈ s.laneList n then (s.putHold h .defect b, .accept) else (s, .refuse .notExpected)

/-! MOVE (R137) -/

/-- The target of a MOVE: the named lane where it has room, or for 0 the placement engine's (R137 test 6). -/
def State.moveTarget (s : State) (p : Profile) (source target : Nat) : Option Nat :=
  if target = 0 then s.placement p.units p.key (some source)
  else
    match s.lane target with
    | some l => if p.units ≤ l.room then some target else none
    | none => none

/-- The effects of a MOVE whose tests have passed (R137). -/
def State.takeMove (s : State) (h units source target : Nat) : State :=
  let s := s.claim h units (.lane target)
  let s := s.modLane source fun l => l.setExitLock (some (.outbound h (.lane target)))
  s.modVisit h fun v => { v with movement := some (.lane target) }

/-- Whether a named target lane satisfies a condition; 0 names none (R137 tests 4 and 5). -/
def State.targetIs (s : State) (target : Nat) (f : Lane → Bool) : Bool :=
  match s.lane target with
  | some l => f l
  | none => false

/-- MOVE (R137). -/
def execMove (handle lane : Nat) (s : State) : Out :=
  .next <| request 0x51 inOpen (fun s =>
    if !within 0 127 handle || !within 0 20 lane then s.refuse .range
    else if lane ≠ 0 ∧ (s.lane lane).isNone then s.refuse .notFound
    else
      match s.visit handle, s.profile handle with
      | some v, some p =>
        match s.laneNumberOf handle with
        | none => s.refuse .state
        | some n =>
          match s.lane n with
          | none => s.refuse .state
          | some l =>
            if v.state ≠ .parked ∨ l.list.head? ≠ some handle ∨ lane = n then s.refuse .state
            else if l.state = .shut ∨ s.targetIs lane (·.state == .shut) then s.refuse .state
            else if l.exitLock.isSome ∨ s.targetIs lane (·.entryLock.isSome) then s.refuse .locked
            else
              match s.moveTarget p n lane with
              | none => s.refuse .full
              | some m => (settle s (s.takeMove handle p.units n m)).ok (b1 m)
      | _, _ => s.refuse .notFound) s

/-! Lane states (R139) -/

/-- LANE STATE (R139). -/
def execLaneState (lane state : Nat) (s : State) : Out :=
  .next <| request 0x50 inOpen (fun s =>
    match within 1 20 lane, laneStateOf state with
    | true, some x =>
      match s.lane lane with
      | none => s.refuse .notFound
      | some l =>
        if l.state = x then s.ok (b1 x.code)
        else
          let s1 := s.putLane lane (some { l with state := x })
          let s1 := if x = .opened then s1.reportCapacity else s1
          (settle s s1).ok (b1 x.code)
    | _, _ => s.refuse .range) s

/-! Beam flags (R130) -/

/-- A line's role, facility number and flag (R130). -/
def beamAnswer (s : State) (line : Nat) : List Byte :=
  match s.beam line with
  | some b => b1 b.role.code ++ o1 b.role.facility ++ bBool b.enabled
  | none => absent 3

/-- BEAM DISABLE (R130). -/
def execBeamDisable (line : Nat) (s : State) : Out :=
  .next <| request 0x52 inBoth (fun s =>
    if !within 0 47 line then s.refuse .range
    else
      let s := s.modBeam line fun b => { b with enabled := false }
      s.ok (beamAnswer s line)) s

/-- BEAM ENABLE (R130). -/
def execBeamEnable (line : Nat) (s : State) : Out :=
  .next <| request 0x53 inBoth (fun s =>
    if !within 0 47 line then s.refuse .range
    else
      let s := s.modBeam line fun b => { b with enabled := true }
      s.ok (beamAnswer s line)) s

/-! LANE READ (R141) -/

/-- A beam line with its enabled flag and its STRAY-PASSAGE latch. Of several lines of one role, which only SETUP can hold, the lowest is the one reported (the model's choice, log 34). -/
def lineBytes (s : State) (role : BeamRole) : List Byte :=
  match s.lineOf role with
  | none => absent 3
  | some l =>
    match s.beam l with
    | some b => b1 l ++ bBool b.enabled ++ bBool b.stray
    | none => absent 3

def laneRowBytes (s : State) (l : Lane) (h : Nat) : List Byte :=
  match s.visit h with
  | some v =>
    b1 h ++ b2 v.fleet ++ b1 (s.unitsOf h) ++ b1 v.state.code ++ b3 (s.keyOfVisit v)
      ++ o1 (indexIn h l.list) ++ b1 (s.lateBlockers l.list h)
  | none => b1 h ++ absent 9

/-- The data of LANE READ (R141, log 11). Where two lines or two lane posts hold one role for the lane, R141 does not say which is reported: the lowest is (the model's choice, log 34). Only the lines and locks that a lane of its kind has are sent (the model's choice, log 38). -/
def laneData (s : State) (n : Nat) (l : Lane) : List Byte :=
  b1 l.kind.code ++ b2 l.capacity
    ++ (match l.kind with
        | .stack => lineBytes s (.laneMouth n)
        | .through => lineBytes s (.laneEntry n) ++ lineBytes s (.laneExit n))
    ++ o1 (s.stationOf .lanePost n)
    ++ b1 l.state.code ++ b1 l.used ++ b1 l.reserved ++ b1 (s.inversions n)
    ++ (match l.kind with
        | .stack => lockBytes l.mouth
        | .through => lockBytes l.mouth ++ lockBytes l.far)
    ++ bList (laneRowBytes s l) l.list

/-- LANE READ (R141). -/
def execLaneRead (lane : Nat) (s : State) : Out :=
  .next <| request 0x54 inBoth (fun s =>
    if !within 1 20 lane then s.refuse .range
    else
      match s.lane lane with
      | none => s.refuse .notFound
      | some l => s.ok (laneData s lane l)) s

end Sys2Proof.Machine
end

