-- ==== Sys2Proof/Machine/Register.lean ====
section
/-!
DEFINITION. The requests of the Fleet Register and its read cursor (chapter 3).
-/
namespace Sys2Proof.Machine

/-- The fields of an entry, in the order of R24. -/
def entryBytes (e : Entry) : List Byte :=
  b2 e.fleet ++ b1 e.fuel.code ++ b1 e.length.code ++ b2 e.tankSize ++ b1 e.interval ++ b1 e.age
    ++ b1 e.program ++ bBool e.barred ++ o1 e.inYard

/-- An entry with its index, wash due and the entry count (R26, R31). -/
def entryAnswer (s : State) (i : Nat) (e : Entry) : List Byte :=
  entryBytes e ++ b1 i ++ bBool e.washDue ++ b2 s.register.length

/-- VEHICLE READ (R26). -/
def execVehicleRead (fleet : Nat) (s : State) : Out :=
  .next <| request 0x20 inBoth (fun s =>
    if !within 1 9999 fleet then s.refuse .range
    else
      match lookup s.register fleet with
      | .notFound _ => s.refuse .notFound
      | .found i e => s.ok (entryAnswer s i e)) s

/-- The six values of an UPDATE, where all lie in their ranges (R27, R29). -/
structure Values where
  fuel : FuelKind
  length : LengthClass
  tankSize : Nat
  interval : Nat
  program : Nat
  barred : Bool
  deriving DecidableEq, Repr

def valuesOf (fuel length tankSize interval program barred : Nat) : Option Values :=
  match fuelOf fuel, lengthOf length, boolOf barred with
  | some f, some l, some b =>
    if within 1 1000 tankSize && within 0 15 interval && within 1 8 program then
      some { fuel := f, length := l, tankSize := tankSize, interval := interval,
             program := program, barred := b }
    else none
  | _, _, _ => none

/-- The read cursor after an insertion at index i (R33). -/
def cursorAfterInsert (cursor i : Nat) : Nat :=
  if cursor < Config.cursorEnd ∧ i ≤ cursor then cursor + 1 else cursor

/-- The read cursor after a removal at index i (R33). -/
def cursorAfterRemove (cursor i : Nat) : Nat :=
  if cursor < Config.cursorEnd ∧ i < cursor then cursor - 1 else cursor

/-- An entry is inserted at an index; the entries from there on move up (R27). -/
def State.insertEntry (s : State) (i : Nat) (e : Entry) : State :=
  (s.setRegister (s.register.take i ++ e :: s.register.drop i)).setCursor
    (cursorAfterInsert s.cursor i)

/-- The entry at an index is taken out; the entries above move down (R28). -/
def State.removeEntry (s : State) (i : Nat) : State :=
  (s.setRegister (s.register.eraseIdx i)).setCursor (cursorAfterRemove s.cursor i)

/-- ADD (R27). -/
def execAdd (fleet fuel length tankSize interval age program barred : Nat) (s : State) : Out :=
  .next <| request 0x21 inBoth (fun s =>
    match within 1 9999 fleet && within 0 255 age,
        valuesOf fuel length tankSize interval program barred with
    | true, some x =>
      match lookup s.register fleet with
      | .found _ _ => s.refuse .conflict
      | .notFound i =>
        if Config.registerSize ≤ s.register.length then s.refuse .full
        else
          let s := s.insertEntry i
            { fleet := fleet, fuel := x.fuel, length := x.length, tankSize := x.tankSize,
              interval := x.interval, age := age, program := x.program, barred := x.barred,
              inYard := none }
          s.ok (b1 i ++ b2 s.register.length)
    | _, _ => s.refuse .range) s

/-- REMOVE (R28). -/
def execRemove (fleet : Nat) (s : State) : Out :=
  .next <| request 0x22 inBoth (fun s =>
    if !within 1 9999 fleet then s.refuse .range
    else
      match lookup s.register fleet with
      | .notFound _ => s.refuse .notFound
      | .found i e =>
        if e.inYard.isSome then s.refuse .state
        else
          let s := s.removeEntry i
          s.ok (b1 i ++ b2 s.register.length)) s

/-- The entry with the six values of an UPDATE (R29). -/
def Entry.withValues (e : Entry) (x : Values) : Entry :=
  { e with fuel := x.fuel, length := x.length, tankSize := x.tankSize, interval := x.interval,
           program := x.program, barred := x.barred }

/-- UPDATE (R29). -/
def execUpdate (fleet fuel length tankSize interval program barred : Nat) (s : State) : Out :=
  .next <| request 0x23 inBoth (fun s =>
    match within 1 9999 fleet, valuesOf fuel length tankSize interval program barred with
    | true, some x =>
      match lookup s.register fleet with
      | .notFound _ => s.refuse .notFound
      | .found _ e =>
        if e.inYard.isSome ∧ (x.fuel ≠ e.fuel ∨ x.length ≠ e.length) then s.refuse .state
        else
          (s.modEntry fleet (·.withValues x)).ok
            (entryBytes (e.withValues x) ++ bBool (e.withValues x).washDue)
    | _, _ => s.refuse .range) s

/-- WASH AGE SET (R30). -/
def execWashAgeSet (fleet age : Nat) (s : State) : Out :=
  .next <| request 0x24 inBoth (fun s =>
    if !within 1 9999 fleet || !within 0 255 age then s.refuse .range
    else
      match lookup s.register fleet with
      | .notFound _ => s.refuse .notFound
      | .found _ e =>
        let e := { e with age := age }
        (s.modEntry fleet fun e => { e with age := age }).ok (entryBytes e ++ bBool e.washDue)) s

/-- READ NEXT: at or past the entry count the cursor becomes the end mark (R31). -/
def State.readNext (s : State) : Outcome :=
  match s.register[s.cursor]? with
  | some e => (s.setCursor (s.cursor + 1)).ok (entryAnswer s s.cursor e)
  | none => (s.setCursor Config.cursorEnd).refuse .notFound

/-- READ NEXT (R31). -/
def execReadNext (s : State) : Out :=
  .next (request 0x25 inBoth State.readNext s)

/-- The cursor that a lookup gives SEEK (R32). -/
def Lookup.index : Lookup → Nat
  | .found i _ => i
  | .notFound i => i

/-- SEEK (R32). -/
def execSeek (fleet : Nat) (s : State) : Out :=
  .next <| request 0x26 inBoth (fun s =>
    if !within 1 9999 fleet then s.refuse .range
    else
      let i := (lookup s.register fleet).index
      (s.setCursor i).ok (b2 i ++ b2 s.register.length)) s

end Sys2Proof.Machine
end

