-- ==== Sys2Proof/Machine/Layout.lean ====
section
/-!
DEFINITION. The layout requests, OPEN YARD, CLOSE YARD and YARD CLEAR (chapter 1, and the YARD CLEAR columns of the other chapters).
-/
namespace Sys2Proof.Machine

/-! Fresh run states (R11, R87, R108, R122) -/

def Lane.fresh (kind : LaneKind) (capacity : Nat) : Lane :=
  { kind := kind, capacity := capacity, state := .opened, list := [], used := 0, reserved := 0,
    mouth := none, far := none }

def Island.fresh (fuel : FuelKind) : Island :=
  { fuel := fuel, state := .opened, queue := [], reserved := 0, turn := none, last := none }

def WashLane.fresh : WashLane :=
  { state := .opened, machineReady := false, startPosted := false, entryLock := none,
    reserved := 0, list := [], drip := none, exitTarget := none }

/-- R5: a station's entry as a definition sets it. -/
def Station.fresh (kind : StationKind) (facility : Nat) : Station :=
  { kind := kind, facility := facility, presence := .unknown, missed := 0, last := none,
    accumulator := 0, pendingLevel := none, pendingDefect := false, directive := .blank,
    reply := none }

/-! Lanes, islands, wash lanes (R2, R3) -/

/-- A lane's definition; a redefinition keeps the run state and gives free locks (R2, R122). -/
def Lane.redefine (old : Option Lane) (kind : LaneKind) (capacity : Nat) : Lane :=
  match old with
  | some l => { l with kind := kind, capacity := capacity, mouth := none, far := none }
  | none => .fresh kind capacity

/-- LANE with a definition (R2). -/
def execLaneDefine (lane kind capacity : Nat) (s : State) : Out :=
  .next <| request 0x10 inSetup (fun s =>
    match within 1 20 lane && within 1 12 capacity, laneKindOf kind with
    | true, some k => (s.putLane lane (some (Lane.redefine (s.lane lane) k capacity))).ok
    | _, _ => s.refuse .range) s

/-- LANE with UNDEFINE (R2). -/
def execLaneUndefine (lane : Nat) (s : State) : Out :=
  .next <| request 0x10 inSetup (fun s =>
    if within 1 20 lane then (s.putLane lane none).ok else s.refuse .range) s

/-- An island's definition; a redefinition keeps the run state (R3, R87). -/
def Island.redefine (old : Option Island) (fuel : FuelKind) : Island :=
  match old with
  | some i => { i with fuel := fuel }
  | none => .fresh fuel

/-- ISLAND with a fuel kind (R3). -/
def execIslandDefine (island fuel : Nat) (s : State) : Out :=
  .next <| request 0x11 inSetup (fun s =>
    match within 1 6 island, fuelOf fuel with
    | true, some k => (s.putIsland island (some (Island.redefine (s.island island) k))).ok
    | _, _ => s.refuse .range) s

/-- ISLAND with UNDEFINE (R3). -/
def execIslandUndefine (island : Nat) (s : State) : Out :=
  .next <| request 0x11 inSetup (fun s =>
    if within 1 6 island then (s.putIsland island none).ok else s.refuse .range) s

/-- WASH with DEFINE; a lane already defined keeps its record (R3, R108). -/
def execWashDefine (washLane : Nat) (s : State) : Out :=
  .next <| request 0x12 inSetup (fun s =>
    if within 1 3 washLane then
      (s.putWash washLane (some ((s.wash washLane).getD .fresh))).ok
    else s.refuse .range) s

/-- WASH with UNDEFINE (R3). -/
def execWashUndefine (washLane : Nat) (s : State) : Out :=
  .next <| request 0x12 inSetup (fun s =>
    if within 1 3 washLane then (s.putWash washLane none).ok else s.refuse .range) s

/-! Tanks, stations, beam lines, time settings (R4 to R7) -/

/-- TANK (R4, R103). -/
def execTank (fuel capacity low reserve : Nat) (s : State) : Out :=
  .next <| request 0x13 inSetup (fun s =>
    match fuelOf fuel with
    | none => s.refuse .range
    | some k =>
      if !within 1 65535 capacity || !within 1 14 low || !within 1 14 reserve || low ≤ reserve then
        s.refuse .range
      else if capacity < (s.tank k).stock then s.refuse .state
      else
        (s.compareStock k
          { s.tank k with capacity := capacity, lowLevel := low, reserveLevel := reserve }).ok) s

/-- STATION with a definition (R5). An address defined again while it is still to be polled stays in the list of the round that runs (log 22). -/
def execStationDefine (address kind facility : Nat) (s : State) : Out :=
  .next <| request 0x14 inSetup (fun s =>
    match within 1 16 address, stationKindOf kind with
    | true, some k =>
      if facilityOk k facility then (s.putStation address (some (.fresh k facility))).ok
      else s.refuse .range
    | _, _ => s.refuse .range) s

/-- STATION with UNDEFINE: the entry is discarded, and the address is passed over in the round that runs (R5, R168). -/
def execStationUndefine (address : Nat) (s : State) : Out :=
  .next <| request 0x14 inSetup (fun s =>
    if within 1 16 address then
      let s := s.putStation address none
      (s.setLine { s.line with round := s.line.round.filter (· != address) }).ok
    else s.refuse .range) s

/-- BEAMS (R6). -/
def execBeams (line role facility : Nat) (s : State) : Out :=
  .next <| request 0x15 inSetup (fun s =>
    match within 0 47 line, roleOf role facility with
    | true, some r => (s.modBeam line fun b => { b with role := r }).ok
    | _, _ => s.refuse .range) s

/-- TIMES (R7). -/
def execTimes (callLead missGrace transitLimit idleTime dripTime horizon autoSwap autoBind : Nat)
    (s : State) : Out :=
  .next <| request 0x16 inSetup (fun s =>
    match boolOf autoSwap, boolOf autoBind with
    | some swap, some bind =>
      if within 60 1800 callLead && within 0 900 missGrace && within 30 900 transitLimit
          && within 30 600 idleTime && within 0 300 dripTime && within 600 14400 horizon then
        (s.setTimes
          { callLead := callLead, missGrace := missGrace, transitLimit := transitLimit,
            idleTime := idleTime, dripTime := dripTime, horizon := horizon,
            autoSwap := swap, autoBind := bind }).ok
      else s.refuse .range
    | _, _ => s.refuse .range) s

/-! LAYOUT READ (R8, log 11, log 12) -/

/-- A lane's item. Its lines are sent as three bytes, the LANE-MOUTH, LANE-ENTRY and LANE-EXIT line, 0xFF where no line holds the role, for a lane of either kind: R8 does not lay them out, and this is the model's choice (log 38). -/
def layoutLane (s : State) (n : Nat) : Outcome :=
  if !within 1 20 n then s.refuse .range
  else
    match s.lane n with
    | none => s.refuse .notFound
    | some l =>
      s.ok (b1 l.kind.code ++ b2 l.capacity ++ o1 (s.lineOf (.laneMouth n))
        ++ o1 (s.lineOf (.laneEntry n)) ++ o1 (s.lineOf (.laneExit n))
        ++ o1 (s.stationOf .lanePost n))

def layoutIsland (s : State) (n : Nat) : Outcome :=
  if !within 1 6 n then s.refuse .range
  else
    match s.island n with
    | none => s.refuse .notFound
    | some i => s.ok (b1 i.fuel.code ++ o1 (s.stationOf .island n))

def layoutWash (s : State) (n : Nat) : Outcome :=
  if !within 1 3 n then s.refuse .range
  else
    match s.wash n with
    | none => s.refuse .notFound
    | some _ => s.ok (o1 (s.stationOf .wash n))

def layoutTank (s : State) (n : Nat) : Outcome :=
  match fuelOf n with
  | none => s.refuse .range
  | some k =>
    let t := s.tank k
    s.ok (b2 t.capacity ++ b1 t.lowLevel ++ b1 t.reserveLevel)

/-- The facility number of a GATE-IN or GATE-OUT station, which R1 binds to no facility, is answered as the 0 that R5 has it carry, not as absent (log 12). -/
def layoutStation (s : State) (n : Nat) : Outcome :=
  if !within 1 16 n then s.refuse .range
  else
    match s.station n with
    | none => s.refuse .notFound
    | some t => s.ok (b1 t.kind.code ++ b1 t.facility)

def layoutBeam (s : State) (n : Nat) : Outcome :=
  match s.beam n with
  | none => s.refuse .range
  | some b => s.ok (b1 b.role.code ++ o1 b.role.facility)

def layoutTimes (s : State) : Outcome :=
  let t := s.times
  s.ok (b2 t.callLead ++ b2 t.missGrace ++ b2 t.transitLimit ++ b2 t.idleTime ++ b2 t.dripTime
    ++ b2 t.horizon ++ bBool t.autoSwap ++ bBool t.autoBind)

/-- LAYOUT READ (R8). -/
def execLayoutRead (kind number : Nat) (s : State) : Out :=
  .next <| request 0x17 inBoth (fun s =>
    match kind with
    | 0 => layoutLane s number
    | 1 => layoutIsland s number
    | 2 => layoutWash s number
    | 3 => layoutTank s number
    | 4 => layoutStation s number
    | 5 => layoutBeam s number
    | 6 => layoutTimes s
    | _ => s.refuse .range) s

/-! OPEN YARD (R11) -/

def State.linesWith (s : State) (role : BeamRole) : Nat :=
  (s.beams.toList.filter fun b => b.role == role).length

def State.stationsAt (s : State) (kind : StationKind) (n : Nat) : Nat :=
  (s.line.stations.toList.filter fun t =>
    match t with
    | some t => t.kind == kind && t.facility == n
    | none => false).length

/-- The facility a role names is defined (R11 test 4). -/
def State.roleDefined (s : State) : BeamRole → Bool
  | .unassigned => true
  | .laneMouth n | .laneEntry n | .laneExit n => (s.lane n).isSome
  | .washEntry n | .washExit n => (s.wash n).isSome

def State.lineFits (s : State) (l : Nat) : Bool :=
  match s.beam l with
  | some b => s.roleDefined b.role
  | none => true

/-- The facility a station names is defined (R11 test 5). -/
def State.stationFits (s : State) (a : Nat) : Bool :=
  match s.station a with
  | none => true
  | some t =>
    match t.kind with
    | .gateIn | .gateOut => true
    | .island => (s.island t.facility).isSome
    | .wash => (s.wash t.facility).isSome
    | .lanePost => (s.lane t.facility).isSome

/-- A lane has the beam lines of its kind (R11 test 6). -/
def State.laneLinesFit (s : State) (n : Nat) : Bool :=
  match s.lane n with
  | none => true
  | some l =>
    match l.kind with
    | .stack =>
      s.linesWith (.laneMouth n) == 1 && s.linesWith (.laneEntry n) == 0
        && s.linesWith (.laneExit n) == 0
    | .through =>
      s.linesWith (.laneEntry n) == 1 && s.linesWith (.laneExit n) == 1
        && s.linesWith (.laneMouth n) == 0

/-- The ten tests of OPEN YARD, each with its lowest failing item (R11). -/
def State.openTests (s : State) : List (Option Nat) :=
  [ if s.clock.isSet then none else some 0,
    if s.lanes.toList.any Option.isSome then none else some 0,
    if (s.stationsAt .gateIn 0) == 0 then some 0 else none,
    (upTo 48).find? fun l => !s.lineFits l,
    (oneTo 16).find? fun a => !s.stationFits a,
    (oneTo 20).find? fun n => !s.laneLinesFit n,
    (oneTo 3).find? fun n =>
      (s.wash n).isSome && !(s.linesWith (.washEntry n) == 1 && s.linesWith (.washExit n) == 1),
    (oneTo 6).find? fun n => (s.island n).isSome && s.stationsAt .island n != 1,
    (oneTo 3).find? fun n => (s.wash n).isSome && s.stationsAt .wash n != 1,
    (oneTo 20).find? fun n => (s.lane n).isSome && !decide (s.stationsAt .lanePost n ≤ 1) ]

/-- The number, from i, of the first test that fails, with its item. -/
def firstFailing : List (Option Nat) → Nat → Option (Nat × Nat)
  | [], _ => none
  | some item :: _, i => some (i, item)
  | none :: rest, i => firstFailing rest (i + 1)

/-- The yard opens, and every owner sets the run states (R11). -/
def State.openYard (s : State) : State :=
  (((s.setPhase .opened).setLanes (s.lanes.map (·.map fun l => .fresh l.kind l.capacity))).setIslands
    (s.islands.map (·.map fun i => .fresh i.fuel))).setWashes (s.washes.map (·.map fun _ => .fresh))

/-- OPEN YARD (R11). -/
def execOpenYard (s : State) : Out :=
  .next <| request 0x18 inSetup (fun s =>
    match firstFailing s.openTests 1 with
    | some (test, item) => ⟨s, .state, b1 test ++ b1 item⟩
    | none => s.openYard.ok) s

/-! CLOSE YARD (R12) -/

/-- The number of the first condition of CLOSE YARD that fails (R12). -/
def State.closeFailure (s : State) : Option Nat :=
  if s.live.length ≠ 0 then some 1
  else if s.router.exitHeld.length + s.router.apron.length ≠ 0 then some 2
  else if s.roster.state = .active then some 3
  else if s.roster.plan.status = .running then some 4
  else none

/-- Every station's entry is changed. -/
def State.mapStations (s : State) (f : Station → Station) : State :=
  s.setStations (s.line.stations.map (·.map f))

/-- CLOSE YARD (R12). -/
def execCloseYard (s : State) : Out :=
  .next <| request 0x19 inOpen (fun s =>
    match s.closeFailure with
    | some condition => ⟨s, .state, b1 condition⟩
    | none => ((s.setPhase .setup).mapStations fun t => { t with directive := .blank }).ok) s

/-! YARD CLEAR (R13): each block's part -/

/-- R107. -/
def Island.cleared (i : Island) : Island :=
  { i with state := if i.state = .check then .opened else i.state,
           queue := [], reserved := 0, turn := none, last := none }

/-- R107. -/
def Tank.cleared (t : Tank) : Tank := { t with committed := 0, lowLatch := none }

/-- R121. -/
def WashLane.cleared (w : WashLane) : WashLane :=
  { w with machineReady := w.machineReady || w.startPosted, startPosted := false,
           entryLock := none, reserved := 0, list := [], drip := none, exitTarget := none }

/-- R142. -/
def Lane.cleared (l : Lane) : Lane :=
  { l with list := [], used := 0, reserved := 0, mouth := none, far := none }

/-- R166: a running sweep ends ABANDONED and keeps its counts. -/
def Roster.cleared (r : Roster) : Roster :=
  { Roster.reset with
    plan := if r.plan.status = .running then
        { Plan.reset with status := .abandoned, bound := r.plan.bound,
                          uncovered := r.plan.uncovered, unreachable := r.plan.unreachable }
      else .reset }

/-- R176: a standing REPEAT is kept. -/
def Station.cleared (t : Station) : Station :=
  { t with accumulator := 0, pendingLevel := none, pendingDefect := false, directive := .blank,
           reply := if t.reply = some .repeatCodes then some .repeatCodes else none }

/-- YARD CLEAR, every block's part in one step (R13, R39, R70, R86, R107, R121, R142, R166, R176, R181; log 21). -/
def State.yardClear (s : State) : State :=
  { s with
    register := s.register.map fun e => { e with inYard := none }
    visits := Vector.replicate 128 none
    router := .reset
    islands := s.islands.map (·.map Island.cleared)
    diesel := s.diesel.cleared
    gas := s.gas.cleared
    washes := s.washes.map (·.map WashLane.cleared)
    lanes := s.lanes.map (·.map Lane.cleared)
    beams := s.beams.map fun b => { b with stray := false }
    roster := s.roster.cleared
    line := { s.line with stations := s.line.stations.map (·.map Station.cleared) }
    attention := { s.attention with dutyMissed := none, planEnded := none } }

/-- YARD CLEAR (R13). -/
def execYardClear (s : State) : Out :=
  .next (request 0x1A inBoth (fun s => s.yardClear.ok) s)

end Sys2Proof.Machine
end

