-- ==== Sys2Proof/Machine/Roster.lean ====
section
/-!
DEFINITION. The roster requests, the comparisons of the Roster Unit and the plan sweep (chapter 9); the dispatch scan as a command (R80).
-/
namespace Sys2Proof.Machine

/-! Loading and arming (R145, R146) -/

/-- ROSTER LOAD (R145). -/
def execRosterLoad (day releaseEnd : Nat) (s : State) : Out :=
  .next <| request 0x60 inBoth (fun s =>
    if !within 0 65535 day || !within 0 86399 releaseEnd then s.refuse .range
    else if s.roster.state ≠ .empty then s.refuse .state
    else
      (s.setRoster { Roster.reset with state := .loading, day := day, releaseEnd := releaseEnd }).ok) s

/-- The slot of a duty number. -/
def State.slotOf (s : State) (number : Nat) : Option Nat :=
  s.roster.duties.findIdx? fun d => d.number == number

/-- DUTY ADD (R145). -/
def execDutyAdd (number pullOut length fuelSet : Nat) (s : State) : Out :=
  .next <| request 0x61 inBoth (fun s =>
    if s.roster.state ≠ .loading then s.refuse .state
    else
      match within 1 65535 number && within 0 86399 pullOut && decide (pullOut ≤ s.roster.releaseEnd),
          lengthOf length, fuelSetOf fuelSet with
      | true, some l, some f =>
        if (s.slotOf number).isSome then s.refuse .conflict
        else if Config.dutySlots ≤ s.roster.duties.length then s.refuse .full
        else
          let slot := s.roster.duties.length
          let d : Duty :=
            { number := number, pullOut := pullOut, length := l, fuelSet := f, state := .opened,
              bound := none, swapped := false }
          (s.setDuties (s.roster.duties ++ [d])).ok (b1 slot)
      | _, _, _ => s.refuse .range) s

/-- The following day of a day number (R146). -/
def followingDay (d : Nat) : Nat := (d + 1) % Config.dayCount

def State.setRosterState (s : State) (x : RosterState) : State :=
  s.setRoster { s.roster with state := x }

/-- ROSTER ARM (R146). -/
def execRosterArm (s : State) : Out :=
  .next <| request 0x62 inBoth (fun s =>
    if s.roster.state ≠ .loading ∨ s.clock.isSet = false then s.refuse .state
    else if s.roster.day = s.clock.day then
      (s.setRosterState .active).ok (b1 RosterState.active.code)
    else if s.roster.day = followingDay s.clock.day then
      (s.setRosterState .armed).ok (b1 RosterState.armed.code)
    else s.refuse .range) s

/-! Closing and clearing (R147, R149) -/

/-- ROSTER CLOSE (R147). -/
def execRosterClose (s : State) : Out :=
  .next <| request 0x63 inBoth (fun s =>
    if s.roster.givesKeys then s.closeRoster.ok (b1 s.missableSlots.length)
    else s.refuse .state) s

/-- Every record is unbound. -/
def State.unbindRecords (s : State) : State :=
  s.setVisits (s.visits.map (·.map fun v => { v with duty := none }))

/-- ROSTER CLEAR (R149). -/
def execRosterClear (s : State) : Out :=
  .next <| request 0x64 inBoth (fun s =>
    if s.roster.state = .loading ∨ s.roster.state = .closed then
      (s.unbindRecords.setRoster .reset).ok
    else s.refuse .state) s

/-! Binding requests (R150 to R153) -/

def State.dutyStateByte (s : State) (slot : Nat) : List Byte :=
  match s.duty slot with
  | some d => b1 d.state.code
  | none => absent 1

/-- DUTY BIND (R150). -/
def execDutyBind (number handle : Nat) (s : State) : Out :=
  .next <| request 0x65 inOpen (fun s =>
    if !within 1 65535 number || !within 0 127 handle then s.refuse .range
    else
      match s.slotOf number, s.visit handle with
      | some slot, some v =>
        match s.duty slot with
        | none => s.refuse .notFound
        | some d =>
          if !s.roster.givesKeys ∨ ¬ (d.state = .opened ∨ d.state = .held .uncovered)
              ∨ v.duty.isSome ∨ v.state = .toGate then s.refuse .state
          else if !s.compatible handle d then s.refuse .conflict
          else
            let s1 := s.bindDuty slot handle
            let s1 := if d.state = .opened then s1.setDutyState slot .bound else s1
            let s := settle s s1
            s.ok (s.dutyStateByte slot)
      | _, _ => s.refuse .notFound) s

/-- A duty that DUTY UNBIND and DUTY SWAP take: BOUND, or HELD for a reason other than UNCOVERED (R151, R152). -/
def DutyState.movable : DutyState → Bool
  | .bound => true
  | .held .uncovered => false
  | .held _ => true
  | _ => false

/-- The state of a duty that DUTY UNBIND has unbound (R151). -/
def State.unboundState (s : State) (d : Duty) : DutyState :=
  if s.roster.state = .armed ∨ s.clock.second < s.callTime d then .opened else .held .uncovered

/-- DUTY UNBIND (R151). -/
def execDutyUnbind (number : Nat) (s : State) : Out :=
  .next <| request 0x66 inOpen (fun s =>
    if !within 1 65535 number then s.refuse .range
    else
      match s.slotOf number with
      | none => s.refuse .notFound
      | some slot =>
        match s.duty slot with
        | none => s.refuse .notFound
        | some d =>
          if !d.state.movable then s.refuse .state
          else
            let s := settle s ((s.unbindDuty slot).setDutyState slot (s.unboundState d))
            s.ok (s.dutyStateByte slot)) s

/-- DUTY SWAP (R152). -/
def execDutySwap (first second : Nat) (s : State) : Out :=
  .next <| request 0x67 inOpen (fun s =>
    if !within 1 65535 first || !within 1 65535 second then s.refuse .range
    else
      match s.slotOf first, s.slotOf second with
      | some a, some b =>
        match s.duty a, s.duty b with
        | some da, some db =>
          if first = second ∨ !da.state.movable ∨ !db.state.movable then s.refuse .state
          else
            match da.bound, db.bound with
            | some ra, some rb =>
              if !s.compatible ra db || !s.compatible rb da then s.refuse .conflict
              else
                let s := settle s ((s.bindDuty a rb).bindDuty b ra)
                s.ok (s.dutyStateByte a ++ s.dutyStateByte b)
            | _, _ => s.refuse .state
        | _, _ => s.refuse .notFound
      | _, _ => s.refuse .notFound) s

/-- A duty is cancelled: a call is withdrawn, a binding removed (R153, R158). -/
def State.cancelDuty (s : State) (slot : Nat) (d : Duty) : State :=
  let s : State :=
    match d.state, d.bound with
    | .called, some h => s.uncall h
    | _, _ => s
  (s.unbindDuty slot).setDutyState slot .cancelled

/-- DUTY CANCEL (R153). -/
def execDutyCancel (number : Nat) (s : State) : Out :=
  .next <| request 0x68 inBoth (fun s =>
    if !within 1 65535 number then s.refuse .range
    else
      match s.slotOf number with
      | none => s.refuse .notFound
      | some slot =>
        match s.duty slot with
        | none => s.refuse .notFound
        | some d =>
          if d.state.missable then (settle s (s.cancelDuty slot d)).ok
          else s.refuse .state) s

/-! Comparisons due (R154, log 3) -/

/-- The close that a second event made due (R147). The roster is then not ACTIVE, so no re-test follows. -/
def State.takeClose (s : State) : State :=
  if s.roster.closeDue then
    if s.roster.state = .active then s.closeRoster
    else s.setRoster { s.roster with closeDue := false }
  else s

/-- The next miss that a second event made due, after the close (R154, R161). -/
def State.takeMiss (s : State) : State :=
  if s.roster.closeDue then s
  else
    match s.roster.missesDue with
    | [] => s
    | slot :: rest =>
      let s := s.setRoster { s.roster with missesDue := rest }
      match s.duty slot with
      | some d =>
        if s.roster.state = .active ∧ d.state.missable then settle s (s.miss slot) else s
      | none => s

/-- A duty whose call check a comparison makes (R154). -/
def DutyState.checkable : DutyState → Bool
  | .opened | .bound => true
  | _ => false

/-- The next call check that a second event made due, after the close and the misses (R154, R155). -/
def State.takeCheck (s : State) : State :=
  if s.roster.closeDue ∨ s.roster.missesDue ≠ [] then s
  else
    match s.roster.checksDue with
    | [] => s
    | slot :: rest =>
      let s := s.setRoster { s.roster with checksDue := rest }
      match s.duty slot with
      | some d =>
        if s.roster.state = .active ∧ d.state.checkable then settle s (s.callCheckFollowed slot)
        else s
      | none => s

def execReleaseEndClose (s : State) : Out := .next (if s.boot = .running then s.takeClose else s)
def execDutyMiss (s : State) : Out := .next (if s.boot = .running then s.takeMiss else s)
def execCallCheck (s : State) : Out := .next (if s.boot = .running then s.takeCheck else s)

/-- DISPATCH_SCAN, taken where the scan-pending flag is set (R80). -/
def execDispatchScan (s : State) : Out :=
  .next (if s.boot = .running ∧ s.router.scanPending then settle s s.scan else s)

/-! The plan sweep (R162 to R164) -/

/-- A sweep starts (R162). -/
def State.startPlan (s : State) : State :=
  s.setPlan { status := .running, bound := 0, uncovered := 0, unreachable := 0,
              order := s.slotsByPullOut, walk := 0, stale := false }

/-- PLAN BUILD (R162). -/
def execPlanBuild (s : State) : Out :=
  .next <| request 0x69 inOpen (fun s =>
    if !s.roster.givesKeys then s.refuse .state
    else if s.roster.plan.status = .running then s.refuse .busy
    else s.startPlan.ok (b1 s.slotsByPullOut.length)) s

def State.fleetOf (s : State) (h : Nat) : Nat :=
  match s.visit h with
  | some v => v.fleet
  | none => 0

/-- A record of the third tier: in service, in transit to a facility, or PARKED and not READY (R163). -/
def Visit.thirdTier (v : Visit) : Bool :=
  match v.state with
  | .apron | .toIsland | .toWash | .toBerth | .atIsland _ | .atWash _ => true
  | .parked => !v.ready
  | _ => false

/-- The record that the sweep binds to a duty, by its three tiers (R163). -/
def State.sweepPick (s : State) (d : Duty) : Option Nat :=
  let free := s.live.filter fun h =>
    s.compatible h d && ((s.visit h).bind (·.duty)).isNone
  let ready := free.filter s.isReady
  let depth := fun h => (s.position h).getD 0
  match leastBy s.fleetOf (ready.filter fun h => depth h == 0) with
  | some h => some h
  | none =>
    match leastBy depth ready with
    | some h => leastBy s.fleetOf (ready.filter fun x => depth x == depth h)
    | none =>
      leastBy s.fleetOf (free.filter fun h =>
        match s.visit h with
        | some v => v.thirdTier
        | none => false)

/-- A record is reachable when it is PARKED or CALLED with no late blocker (R127, R163). -/
def State.reachable (s : State) (h : Nat) : Bool :=
  match s.visit h, s.laneNumberOf h with
  | some v, some n => v.standing && s.lateBlockers (s.laneList n) h == 0
  | _, _ => false

/-- The reach test of a duty (R163). -/
def State.reachTest (s : State) (slot : Nat) : State :=
  match s.boundOf slot with
  | some h =>
    if s.reachable h then s
    else s.setPlan { s.roster.plan with unreachable := s.roster.plan.unreachable + 1 }
  | none => s

/-- The sweep binds a record to a duty; a HELD duty is re-tested at the same step (R163). -/
def State.sweepBind (s : State) (slot h : Nat) (d : Duty) : State :=
  let s1 := s.bindDuty slot h
  let s1 := if d.state = .opened then s1.setDutyState slot .bound else s1
  retests s (s1.setPlan { s1.roster.plan with bound := s1.roster.plan.bound + 1 })

/-- The step of a duty (R163). -/
def State.sweepDuty (s : State) (slot : Nat) : State :=
  match s.duty slot with
  | none => s
  | some d =>
    match d.state with
    | .opened | .held .uncovered =>
      match s.sweepPick d with
      | some h => (s.sweepBind slot h d).reachTest slot
      | none => s.setPlan { s.roster.plan with uncovered := s.roster.plan.uncovered + 1 }
    | .bound | .held _ | .called => s.reachTest slot
    | _ => s

/-- The sweep ends DONE or STALE once every duty has been walked (R164). -/
def State.endIfWalked (s : State) : State :=
  let p := s.roster.plan
  if p.order.length ≤ p.walk then s.endPlan (if p.stale then .stale else .done) else s

/-- One step of a running sweep (R162, R163; log 19). -/
def State.sweepStep (s : State) : State :=
  match s.roster.plan.order[s.roster.plan.walk]? with
  | some slot =>
    let s := s.sweepDuty slot
    (s.setPlan { s.roster.plan with walk := s.roster.plan.walk + 1 }).endIfWalked
  | none => s.endIfWalked

def execPlanSweepStep (s : State) : Out :=
  .next (if s.boot = .running ∧ s.roster.plan.status = .running then s.sweepStep else s)

/-! Reads (R165) -/

/-- The number of duties in each state, in the order of R144. -/
def dutyCounts (s : State) : List Byte :=
  (upTo 8).flatMap fun c => b1 (s.roster.duties.filter fun d => d.state.code == c).length

/-- The data of ROSTER READ (R165, log 11). -/
def rosterData (s : State) : List Byte :=
  let r := s.roster
  b1 r.state.code ++ b2 r.day ++ b3 r.releaseEnd ++ b1 r.duties.length ++ b1 r.plan.status.code
    ++ b1 r.plan.bound ++ b1 r.plan.uncovered ++ b1 r.plan.unreachable
    ++ o1 (if r.plan.status = .running then some r.plan.walk else none) ++ dutyCounts s

/-- ROSTER READ (R165). -/
def execRosterRead (s : State) : Out :=
  .next (request 0x6A inBoth (fun s => s.ok (rosterData s)) s)

/-- The data of DUTY READ (R165, log 11). The bound record's state is sent as its byte alone, without its sub-position (the model's choice, log 35). -/
def dutyData (s : State) (slot : Nat) (d : Duty) : List Byte :=
  let v := d.bound.bind s.visit
  b1 slot ++ b2 d.number ++ b3 d.pullOut ++ b1 d.length.code ++ b1 d.fuelSet.code
    ++ b1 d.state.code ++ o1 d.bound ++ o1 (d.state.reason.map HeldReason.code) ++ bBool d.swapped
    ++ b3 (s.callTime d)
    ++ presence 3 (if s.roster.givesKeys then some (signed3 (s.timeToPullOut d)) else none)
    ++ o2 (v.map (·.fleet)) ++ o1 (v.map fun v => v.state.code)
    ++ o1 (v.map fun v => if v.ready then 1 else 0)

/-- DUTY READ (R165). -/
def execDutyRead (slot : Nat) (s : State) : Out :=
  .next <| request 0x6B inBoth (fun s =>
    if !within 0 127 slot then s.refuse .range
    else
      match s.duty slot with
      | none => s.refuse .notFound
      | some d => s.ok (dutyData s slot d)) s

end Sys2Proof.Machine
end

