-- ==== Sys2Proof/Machine/Clock.lean ====
section
/-!
DEFINITION. The Yard Clock (chapter 2): the second event with its day turn, SET CLOCK, TRIM CLOCK.
-/
namespace Sys2Proof.Machine

/-- The clock at the completion of a yard second (R16, R17). -/
def Clock.advance (c : Clock) : Clock :=
  if c.second + 1 < Config.daySeconds then
    { c with second := c.second + 1, eventSecond := c.second + 1 }
  else { c with second := 0, day := (c.day + 1) % Config.dayCount, eventSecond := 0 }

/-- The second event is a day turn (R17). -/
def Clock.turns (c : Clock) : Bool := !decide (c.second + 1 < Config.daySeconds)

/-! What the last second event made due and nobody has taken yet (log 3) -/

/-- Every comparison and expiry still due is taken, in the order of R154, then by ascending handle, island and wash lane. -/
def State.takeDue (s : State) : State :=
  let s := s.takeClose
  let s := s.roster.missesDue.foldl (fun s _ => s.takeMiss) s
  let s := s.roster.checksDue.foldl (fun s _ => s.takeCheck) s
  let s := (upTo Config.visitSlots).foldl State.transitExpiry s
  let s := (oneTo 6).foldl State.idleExpiry s
  (oneTo 3).foldl State.dripExpiry s

/-! The parts of the second event -/

/-- Every running timer is lowered by one (R20). -/
def State.tickTimers (s : State) : State :=
  ((s.setVisits (s.visits.map (·.map fun v => { v with timer := tickTimer v.timer }))).setIslands
    (s.islands.map (·.map fun i =>
      { i with turn := i.turn.map fun t => { t with idle := tickTimer t.idle } }))).setWashes
    (s.washes.map (·.map fun w => { w with drip := tickTimer w.drip }))

/-- The Fleet Register at a day turn (R37). -/
def State.ageRegister (s : State) : State :=
  s.setRegister (s.register.map fun e => { e with age := min 255 (e.age + 1) })

/-- The Roster Unit at a day turn (R148). A roster that closes brings no re-test. -/
def State.rosterDayTurn (s : State) : State :=
  match s.roster.state with
  | .armed => if s.roster.day = s.clock.day then s.setRosterState .active else s.closeRoster
  | .active => s.closeRoster
  | _ => s

def State.dayTurn (s : State) : State := s.ageRegister.rosterDayTurn

/-- A duty is missed at the present second (R161). -/
def State.missNow (s : State) (slot : Nat) : Bool :=
  match s.duty slot with
  | some d => d.state.missable && decide (d.pullOut + s.times.missGrace ≤ s.clock.second)
  | none => false

/-- A duty's call check is made at the present second (R154). -/
def State.checkNow (s : State) (slot : Nat) : Bool :=
  match s.duty slot with
  | some d => d.state.checkable && decide (s.callTime d ≤ s.clock.second)
  | none => false

/-- The comparisons of an ACTIVE roster at the new yard second (R21, R154). -/
def State.compareTimes (s : State) : State :=
  if s.roster.state = .active then
    if s.roster.releaseEnd ≤ s.clock.second then
      s.setRoster { s.roster with closeDue := true, missesDue := [], checksDue := [] }
    else
      s.setRoster { s.roster with
        closeDue := false
        missesDue := s.slotsByPullOut.filter s.missNow
        checksDue := s.slotsByPullOut.filter s.checkNow }
  else s.setRoster { s.roster with closeDue := false, missesDue := [], checksDue := [] }

/-- The second event in SETUP and OPEN (R16). The blocks stand in no order among themselves; the model ages the register in the second event itself, so before a drip expiry that the same event makes due (log 3). -/
def State.secondEvent (s : State) : State :=
  let s := s.takeDue
  let turn := s.clock.turns
  let s := (s.setClock s.clock.advance).tickTimers
  let s := if turn then s.dayTurn else s
  s.compareTimes

/-- SECOND_EVENT (R15, R16, R17): it is not raised while RESETn is low or the table check runs, and changes only the clock in HALTED. -/
def execSecondEvent (s : State) : Out :=
  .next <|
    match s.boot with
    | .running =>
      match s.phase with
      | .halted => s.setClock s.clock.advance
      | _ => s.secondEvent
    | _ => s

/-- SET CLOCK (R18). -/
def execSetClock (second day : Nat) (s : State) : Out :=
  .next <| request 0x1B inSetup (fun s =>
    if !within 0 86399 second || !within 0 65535 day then s.refuse .range
    else if s.roster.givesKeys then s.refuse .state
    else (s.setClock { s.clock with second := second, day := day, isSet := true, divider := 0 }).ok) s

/-- The yard second that a trim gives, where it is taken (R19). -/
def trimmed (second : Nat) (amount : Int) : Option Nat :=
  if -60 ≤ amount ∧ amount ≤ 60 ∧ 0 ≤ (second : Int) + amount ∧ (second : Int) + amount ≤ 86399 then
    some ((second : Int) + amount).toNat
  else none

/-- TRIM CLOCK (R19). -/
def execTrimClock (amount : Int) (s : State) : Out :=
  .next <| request 0x1C inOpen (fun s =>
    match trimmed s.clock.second amount with
    | some second => (s.setClock { s.clock with second := second }).ok (b3 second)
    | none => s.refuse .range) s

end Sys2Proof.Machine
end

