-- ==== Sys2Proof/Machine/Power.lean ====
section
/-!
DEFINITION. Power-on, RESETn and the table check (R9). The commands waiting are the outside's and are kept (log 5).
-/
namespace Sys2Proof.Machine

/-- POWER_ON (R9). -/
def execPowerOn (s : State) : Out := .next { State.reset with pending := s.pending }

/-- RESETN_ASSERT: nothing the part held survives (R9). -/
def execResetnAssert (s : State) : Out :=
  .next { State.reset with boot := .resetLow, pending := s.pending }

/-- RESETN_RELEASE: the table check starts (R9). -/
def execResetnRelease (s : State) : Out :=
  .next (if s.boot = .resetLow then { State.reset with pending := s.pending } else s)

/-- TABLE_CHECK_END: every block stands at its power-on value, in SETUP after a pass and in HALTED after a fail (R9). A BUSY answer of the port stands (log 6). -/
def execTableCheckEnd (passed : Bool) (s : State) : Out :=
  .next <|
    if s.boot = .checking then
      { State.reset with
        boot := .running, checkPassed := passed, phase := if passed then .setup else .halted,
        port := s.port, pending := s.pending }
    else s

end Sys2Proof.Machine
end

