-- ==== Sys2Proof/Machine/Stations.lean ====
section
/-!
DEFINITION. The Yard Line (chapter 10): polls, the Station Code Queue, the translator with its table of codes, STATION READ.
-/
namespace Sys2Proof.Machine

/-! Polling (R168) -/

/-- The defined addresses, ascending. -/
def State.definedAddresses (s : State) : List Nat := (oneTo 16).filter fun a => (s.station a).isSome

/-- The addresses still to be polled in this round; with none left a new round starts (R168). R168 starts it when the last station has been dealt with, or on an idle line once a station is defined; that its list is taken only at the next POLL_SEND, so that a station defined between is polled in it, is the model's choice (log 36). -/
def State.pollList (s : State) : List Nat :=
  match s.line.round with
  | [] => s.definedAddresses
  | round => round

/-- A poll frame (11.5). -/
def pollFrame (a : Nat) (t : Station) : List Byte :=
  withCheck (byte a :: t.directive.bytes ++ replyBytes t.reply)

/-- The poll of one station: its frame is built and sent (R168 step 1). -/
def State.sendPoll (s : State) (a : Nat) (rest : List Nat) : State :=
  match s.station a with
  | none => s.setLine { s.line with round := rest }
  | some t =>
    s.setLine { s.line with
      round := rest
      poll := some { address := a, directive := t.directive, reply := t.reply, posted := false,
                     replied := false }
      sent := pollFrame a t }

/-- POLL_SEND (R168): in SETUP and OPEN, once the last transaction has ended. -/
def execPollSend (s : State) : Out :=
  .next <|
    if s.boot = .running ∧ s.phase ≠ .halted ∧ s.line.poll.isNone then
      match s.pollList with
      | [] => s
      | a :: rest => s.sendPoll a rest
    else s

/-! The outcome of a transaction (R169 to R171) -/

/-- The status and codes of a good answer from an address; none for any other bytes (R169). -/
def goodAnswer (a : Nat) (received : List Byte) : Option (Status × List Byte) :=
  match received with
  | address :: status :: count :: rest =>
    if byteSum received = 0 ∧ address.toNat = a ∧ count.toNat ≤ 4 ∧ rest.length = count.toNat + 1 then
      some ({ key := status.getLsbD 0, fault := status.getLsbD 1 }, rest.dropLast)
    else none
  | _ => none

/-- A station after a missed poll (R169). -/
def Station.miss (t : Station) : Station :=
  match t.presence with
  | .unknown => t
  | _ =>
    let missed := min 3 (t.missed + 1)
    { t with missed := missed, presence := if missed = 3 then .offline else t.presence }

/-- A station after a good answer (R169). -/
def Station.heard (t : Station) (x : Status) : Station :=
  { t with presence := .online, missed := 0, last := some x }

/-- What an answered transaction does to what its poll carried: a STOP still standing gives way to NONE, a reply still held becomes absent (R170). -/
def Station.carried (t : Station) (p : Poll) : Station :=
  { t with
    directive := if p.directive = .stop ∧ p.posted = false ∧ t.directive = .stop then .blank
      else t.directive
    reply := if p.reply.isSome ∧ p.replied = false then none else t.reply }

/-- The Station Code Queue has room for the codes of a frame (R171). -/
def State.codesFit (s : State) (codes : List Byte) : Bool :=
  decide (s.line.queue.length + codes.length ≤ Config.codeQueueSize)

/-- The codes of a frame join the end of the queue, with the frame's key state (R171). -/
def State.queueCodes (s : State) (a : Nat) (x : Status) (codes : List Byte) : State :=
  s.setLine { s.line with
    queue := s.line.queue ++ codes.map fun c => { address := a, code := c, key := x.key } }

/-- The codes of a good answer join the queue whole, or the frame is refused whole with REPEAT (R171). -/
def State.admitFrame (s : State) (a : Nat) (t : Station) (x : Status) (codes : List Byte) : State :=
  if s.codesFit codes then (s.putStation a (some t)).queueCodes a x codes
  else s.putStation a (some { t with reply := some .repeatCodes })

/-- A transaction whose station has been undefined since its poll: there is no entry to change, and the codes of a good answer join the queue where there is room, for the translator to discard (R171, R172, R5; log 22). -/
def State.endOrphan (s : State) (a : Nat) (received : List Byte) : State :=
  match goodAnswer a received with
  | some (x, codes) => if s.codesFit codes then s.queueCodes a x codes else s
  | none => s

/-- The end of the transaction p with the bytes received in its window (R169, R170). -/
def State.endPoll (s : State) (p : Poll) (received : List Byte) : State :=
  let s := s.setLine { s.line with poll := none }
  match s.station p.address with
  | none => s.endOrphan p.address received
  | some t =>
    if received = [] then s.putStation p.address (some t.miss)
    else
      match goodAnswer p.address received with
      | some (x, codes) => s.admitFrame p.address ((t.carried p).heard x) x codes
      | none =>
        s.putStation p.address (some { (t.carried p).miss with reply := some .repeatCodes })

/-- POLL_OUTCOME (R169): the bytes received within the reply window of the poll in progress. -/
def execPollOutcome (received : List Byte) (s : State) : Out :=
  .next <|
    if s.boot = .running then
      match s.line.poll with
      | some p => s.endPoll p received
      | none => s
    else s

/-! The table of codes (R172, R173) -/

inductive Code where
  | digit (d : Nat)
  | clear
  | arrive | level | gateDefect
  | depart
  | here | nozzleOut | endTurn | full | void
  | ready | cycleOn | cycleDone | fault | entered | exited | faultClear
  | inbound | outbound | postDefect | postOk
  | unlisted
  deriving DecidableEq, Repr

/-- The function code of a byte at a kind of station (R173). -/
def functionCode (kind : StationKind) (b : Nat) : Code :=
  match kind, b with
  | .gateIn, 0x41 => .arrive
  | .gateIn, 0x4C => .level
  | .gateIn, 0x44 => .gateDefect
  | .gateOut, 0x58 => .depart
  | .island, 0x48 => .here
  | .island, 0x4E => .nozzleOut
  | .island, 0x45 => .endTurn
  | .island, 0x46 => .full
  | .island, 0x56 => .void
  | .wash, 0x52 => .ready
  | .wash, 0x57 => .cycleOn
  | .wash, 0x44 => .cycleDone
  | .wash, 0x21 => .fault
  | .wash, 0x49 => .entered
  | .wash, 0x4F => .exited
  | .wash, 0x5A => .faultClear
  | .lanePost, 0x49 => .inbound
  | .lanePost, 0x4F => .outbound
  | .lanePost, 0x44 => .postDefect
  | .lanePost, 0x4B => .postOk
  | _, _ => .unlisted

/-- The code of a byte at a kind of station (R172). -/
def codeOf (kind : StationKind) (b : Byte) : Code :=
  if within 0x30 0x39 b.toNat then .digit (b.toNat - 0x30)
  else if b = 0x1B then .clear
  else functionCode kind b.toNat

/-- The key-on codes (R173). -/
def Code.keyOn : Code → Bool
  | .gateDefect | .void | .faultClear | .postDefect | .postOk => true
  | _ => false

/-- The number-consuming codes (R173). -/
def Code.consumes : Code → Bool
  | .arrive | .level | .depart | .here | .endTurn | .full | .faultClear
  | .inbound | .outbound | .postDefect | .postOk => true
  | _ => false

/-! The translator (R172, R173) -/

/-- The oldest entry of the queue, where its station is defined, with its code. -/
def State.nextCode (s : State) : Option (CodeEntry × Station × Code) :=
  match s.line.queue with
  | [] => none
  | e :: _ => (s.station e.address).map fun t => (e, t, codeOf t.kind e.code)

/-- The oldest entry leaves the queue. -/
def State.popCode (s : State) : State := s.setLine { s.line with queue := s.line.queue.tail }

def State.setAccumulator (s : State) (a n : Nat) : State :=
  s.modStation a fun t => { t with accumulator := n }

/-- The owner of a function code: it takes the state, the station's address, its facility and the number, and gives its outcome. -/
abbrev Owner := State → Nat → Nat → Nat → State × Reply

/-- A function code at a station, lines 2 to 5 of R173; the entry has left the queue. -/
def State.handleCode (s : State) (e : CodeEntry) (t : Station) (c : Code) (owner : Owner) : State :=
  let a := e.address
  if c.keyOn && !e.key then s.setReply a (.refuse .keyNeeded)
  else if s.phase ≠ .opened then
    (if c.consumes then s.setAccumulator a 0 else s).setReply a .closed
  else if c.consumes && t.accumulator == 0 && c != .level then s.setReply a (.refuse .noNumber)
  else
    let s1 := if c.consumes then s.setAccumulator a 0 else s
    let o := owner s1 a t.facility t.accumulator
    (settle s1 o.1).setReply a o.2

/-- A translator step whose oldest code is c; with another code in front, or none, it does not come about (log 1). -/
def translate (c : Code) (owner : Owner) (s : State) : State :=
  if s.boot = .running then
    match s.nextCode with
    | some (e, t, c') => if c' = c then s.popCode.handleCode e t c owner else s
    | none => s
  else s

/-- The idle timer of an island is reloaded by a digit or CLEAR of its terminal (R93, R172). -/
def State.reloadFor (s : State) (t : Station) : State :=
  match t.kind with
  | .island => s.reloadIdle t.facility
  | _ => s

/-- DIGIT (R172). -/
def execDigit (s : State) : Out :=
  .next <|
    if s.boot = .running then
      match s.nextCode with
      | some (e, t, .digit d) =>
        (s.popCode.setAccumulator e.address ((t.accumulator * 10 + d) % 10000)).reloadFor t
      | _ => s
    else s

/-- CLEAR (R172). -/
def execClear (s : State) : Out :=
  .next <|
    if s.boot = .running then
      match s.nextCode with
      | some (e, t, .clear) =>
        (s.popCode.modStation e.address fun t =>
          { t with accumulator := 0, pendingLevel := none, pendingDefect := false }).reloadFor t
      | _ => s
    else s

/-- UNDEFINED_CODE: an entry of an undefined address is removed without a reply, an unlisted byte is refused (R172, R173 line 1). -/
def execUndefinedCode (s : State) : Out :=
  .next <|
    if s.boot = .running then
      match s.line.queue with
      | [] => s
      | e :: _ =>
        match s.station e.address with
        | none => s.popCode
        | some t =>
          if codeOf t.kind e.code = .unlisted then
            s.popCode.setReply e.address (.refuse .undefinedCode)
          else s
    else s

/-! Gate posts (R46, R63, R174) -/

def arriveOwner : Owner := fun s a _ n =>
  match s.station a with
  | some t => s.admitVehicle a n t.pendingLevel t.pendingDefect
  | none => (s, .refuse .unknownVehicle)

def levelOwner : Owner := fun s a _ n =>
  if n ≤ 8 then (s.modStation a fun t => { t with pendingLevel := some n }, .accept)
  else (s, .refuse .notExpected)

def gateDefectOwner : Owner := fun s a _ _ =>
  (s.modStation a fun t => { t with pendingDefect := true }, .accept)

/-- DEPART may retire a record that is TO-GATE or ASTRAY (R63). -/
def Visit.mayDepart (v : Visit) : Bool := v.state == .toGate || v.state == .astray

/-- Checks 3 and 4 of DEPART, and the retirement (R63). -/
def departOwner : Owner := fun s _ _ n =>
  match s.entry n with
  | none => (s, .refuse .unknownVehicle)
  | some e =>
    match e.inYard with
    | none => (s, .refuse .notCalled)
    | some h =>
      match s.visit h with
      | some v =>
        if v.mayDepart then (s.endVisit h true, .accept) else (s, .refuse .notCalled)
      | none => (s, .refuse .notCalled)

def execArrive (s : State) : Out := .next (translate .arrive arriveOwner s)
def execLevel (s : State) : Out := .next (translate .level levelOwner s)
def execGateDefect (s : State) : Out := .next (translate .gateDefect gateDefectOwner s)
def execDepart (s : State) : Out := .next (translate .depart departOwner s)

/-! Island terminals (R90 to R98) -/

def execHere (s : State) : Out := .next (translate .here (fun s _ n x => s.hereAt n x) s)
def execNozzleOut (s : State) : Out := .next (translate .nozzleOut (fun s _ n _ => s.nozzleOut n) s)
def execEndCode (s : State) : Out :=
  .next (translate .endTurn (fun s _ n q => s.endCodeAt n false q) s)
def execFullCode (s : State) : Out := .next (translate .full (fun s _ n q => s.endCodeAt n true q) s)
def execVoidCode (s : State) : Out := .next (translate .void (fun s _ n _ => s.voidAt n) s)

/-! Wash machine controllers (R111 to R119) -/

def execReady (s : State) : Out := .next (translate .ready (fun s _ n _ => s.readyAt n) s)
def execCycleOn (s : State) : Out := .next (translate .cycleOn (fun s _ n _ => s.cycleOnAt n) s)
def execCycleDone (s : State) : Out :=
  .next (translate .cycleDone (fun s _ n _ => s.cycleDoneAt n) s)
def execFault (s : State) : Out := .next (translate .fault (fun s _ n _ => s.faultAt n) s)
def execEntered (s : State) : Out := .next (translate .entered (fun s _ n _ => s.enteredAt n) s)
def execExited (s : State) : Out := .next (translate .exited (fun s _ n _ => s.exitedAt n) s)
def execFaultClear (s : State) : Out :=
  .next (translate .faultClear (fun s _ n x => s.faultClearAt n x) s)

/-! Lane posts (R135, R136) -/

def execInCode (s : State) : Out := .next (translate .inbound (fun s _ n x => s.inAt n x) s)
def execOutCode (s : State) : Out := .next (translate .outbound (fun s _ n x => s.outAt n x) s)
def execLanePostDefect (s : State) : Out :=
  .next (translate .postDefect (fun s _ n x => s.defectAt n x true) s)
def execLanePostOk (s : State) : Out :=
  .next (translate .postOk (fun s _ n x => s.defectAt n x false) s)

/-! STATION READ (R175) -/

def statusBytes : Option Status → List Byte
  | some x => bBool x.key ++ bBool x.fault
  | none => absent 2

/-- The data of STATION READ (R175). The one-shot reply is sent as the reply kind and refusal reason of 11.5, so absent is two bytes 0x00 (log 33). -/
def stationData (s : State) (a : Nat) (t : Station) : List Byte :=
  b1 a ++ b1 t.kind.code ++ b1 t.facility ++ b1 t.presence.code ++ b1 t.missed ++ statusBytes t.last
    ++ b2 t.accumulator ++ o1 t.pendingLevel ++ bBool t.pendingDefect ++ t.directive.bytes
    ++ replyBytes t.reply ++ b1 (s.line.queue.filter fun e => e.address == a).length
    ++ b1 (Config.codeQueueSize - s.line.queue.length)

/-- STATION READ (R175). -/
def execStationRead (address : Nat) (s : State) : Out :=
  .next <| request 0x70 inBoth (fun s =>
    if !within 1 16 address then s.refuse .range
    else
      match s.station address with
      | none => s.refuse .notFound
      | some t => s.ok (stationData s address t)) s

end Sys2Proof.Machine
end

