-- ==== Sys2Proof/Machine/Dispatch.lean ====
section
/-!
DEFINITION. One arm per command, each a direct call of its meaning.
-/
namespace Sys2Proof.Machine

def exec (i : Instr) (s : State) : Host.Outcome State Fault Refusal :=
  match i with
  | .powerOn => Sys2Proof.Machine.execPowerOn s
  | .resetnAssert => Sys2Proof.Machine.execResetnAssert s
  | .resetnRelease => Sys2Proof.Machine.execResetnRelease s
  | .tableCheckEnd passed => Sys2Proof.Machine.execTableCheckEnd passed s
  | .secondEvent => Sys2Proof.Machine.execSecondEvent s
  | .transitExpiry handle => Sys2Proof.Machine.execTransitExpiry handle s
  | .idleExpiry island => Sys2Proof.Machine.execIdleExpiry island s
  | .dripExpiry washLane => Sys2Proof.Machine.execDripExpiry washLane s
  | .callCheck => Sys2Proof.Machine.execCallCheck s
  | .dutyMiss => Sys2Proof.Machine.execDutyMiss s
  | .releaseEndClose => Sys2Proof.Machine.execReleaseEndClose s
  | .dispatchScan => Sys2Proof.Machine.execDispatchScan s
  | .planSweepStep => Sys2Proof.Machine.execPlanSweepStep s
  | .pollSend => Sys2Proof.Machine.execPollSend s
  | .pollOutcome received => Sys2Proof.Machine.execPollOutcome received s
  | .digit => Sys2Proof.Machine.execDigit s
  | .clear => Sys2Proof.Machine.execClear s
  | .arrive => Sys2Proof.Machine.execArrive s
  | .level => Sys2Proof.Machine.execLevel s
  | .gateDefect => Sys2Proof.Machine.execGateDefect s
  | .depart => Sys2Proof.Machine.execDepart s
  | .here => Sys2Proof.Machine.execHere s
  | .nozzleOut => Sys2Proof.Machine.execNozzleOut s
  | .endCode => Sys2Proof.Machine.execEndCode s
  | .fullCode => Sys2Proof.Machine.execFullCode s
  | .voidCode => Sys2Proof.Machine.execVoidCode s
  | .ready => Sys2Proof.Machine.execReady s
  | .cycleOn => Sys2Proof.Machine.execCycleOn s
  | .cycleDone => Sys2Proof.Machine.execCycleDone s
  | .fault => Sys2Proof.Machine.execFault s
  | .entered => Sys2Proof.Machine.execEntered s
  | .exited => Sys2Proof.Machine.execExited s
  | .faultClear => Sys2Proof.Machine.execFaultClear s
  | .inCode => Sys2Proof.Machine.execInCode s
  | .outCode => Sys2Proof.Machine.execOutCode s
  | .lanePostDefect => Sys2Proof.Machine.execLanePostDefect s
  | .lanePostOk => Sys2Proof.Machine.execLanePostOk s
  | .laneMouthPassage line => Sys2Proof.Machine.execLaneMouthPassage line s
  | .laneEntryPassage line => Sys2Proof.Machine.execLaneEntryPassage line s
  | .laneExitPassage line => Sys2Proof.Machine.execLaneExitPassage line s
  | .washEntryPassage line => Sys2Proof.Machine.execWashEntryPassage line s
  | .washExitPassage line => Sys2Proof.Machine.execWashExitPassage line s
  | .unassignedLinePassage line => Sys2Proof.Machine.execUnassignedLinePassage line s
  | .requestWhileInHand frame => Sys2Proof.Machine.execRequestWhileInHand frame s
  | .malformedRequest frame => Sys2Proof.Machine.execMalformedRequest frame s
  | .answerRead clocked => Sys2Proof.Machine.execAnswerRead clocked s
  | .status => Sys2Proof.Machine.execStatus s
  | .more => Sys2Proof.Machine.execMore s
  | .laneDefine lane kind capacity => Sys2Proof.Machine.execLaneDefine lane kind capacity s
  | .laneUndefine lane => Sys2Proof.Machine.execLaneUndefine lane s
  | .islandDefine island fuel => Sys2Proof.Machine.execIslandDefine island fuel s
  | .islandUndefine island => Sys2Proof.Machine.execIslandUndefine island s
  | .washDefine washLane => Sys2Proof.Machine.execWashDefine washLane s
  | .washUndefine washLane => Sys2Proof.Machine.execWashUndefine washLane s
  | .tank fuel capacity low reserve => Sys2Proof.Machine.execTank fuel capacity low reserve s
  | .stationDefine address kind facility => Sys2Proof.Machine.execStationDefine address kind facility s
  | .stationUndefine address => Sys2Proof.Machine.execStationUndefine address s
  | .beams line role facility => Sys2Proof.Machine.execBeams line role facility s
  | .times callLead missGrace transitLimit idleTime dripTime horizon autoSwap autoBind => Sys2Proof.Machine.execTimes callLead missGrace transitLimit idleTime dripTime horizon autoSwap autoBind s
  | .layoutRead kind number => Sys2Proof.Machine.execLayoutRead kind number s
  | .openYard => Sys2Proof.Machine.execOpenYard s
  | .closeYard => Sys2Proof.Machine.execCloseYard s
  | .yardClear => Sys2Proof.Machine.execYardClear s
  | .setClock second day => Sys2Proof.Machine.execSetClock second day s
  | .trimClock amount => Sys2Proof.Machine.execTrimClock amount s
  | .vehicleRead fleet => Sys2Proof.Machine.execVehicleRead fleet s
  | .add fleet fuel length tankSize interval age program barred => Sys2Proof.Machine.execAdd fleet fuel length tankSize interval age program barred s
  | .remove fleet => Sys2Proof.Machine.execRemove fleet s
  | .update fleet fuel length tankSize interval program barred => Sys2Proof.Machine.execUpdate fleet fuel length tankSize interval program barred s
  | .washAgeSet fleet age => Sys2Proof.Machine.execWashAgeSet fleet age s
  | .readNext => Sys2Proof.Machine.execReadNext s
  | .seek fleet => Sys2Proof.Machine.execSeek fleet s
  | .holdSet handle hold => Sys2Proof.Machine.execHoldSet handle hold s
  | .holdClear handle hold => Sys2Proof.Machine.execHoldClear handle hold s
  | .routeFlags handle skipFuel skipWash => Sys2Proof.Machine.execRouteFlags handle skipFuel skipWash s
  | .locateLane handle lane => Sys2Proof.Machine.execLocateLane handle lane s
  | .locateApron handle => Sys2Proof.Machine.execLocateApron handle s
  | .locateRetire handle => Sys2Proof.Machine.execLocateRetire handle s
  | .retire handle => Sys2Proof.Machine.execRetire handle s
  | .recordRead handle => Sys2Proof.Machine.execRecordRead handle s
  | .recordFind fleet => Sys2Proof.Machine.execRecordFind fleet s
  | .recordScan handle => Sys2Proof.Machine.execRecordScan handle s
  | .recall handle service facility => Sys2Proof.Machine.execRecall handle service facility s
  | .waitListRead => Sys2Proof.Machine.execWaitListRead s
  | .islandOpen island => Sys2Proof.Machine.execIslandOpen island s
  | .islandClose island => Sys2Proof.Machine.execIslandClose island s
  | .islandConfirm island ending quantity => Sys2Proof.Machine.execIslandConfirm island ending quantity s
  | .islandConfirmVoid island => Sys2Proof.Machine.execIslandConfirmVoid island s
  | .islandRead island => Sys2Proof.Machine.execIslandRead island s
  | .tankDelivery fuel quantity => Sys2Proof.Machine.execTankDelivery fuel quantity s
  | .tankSet fuel stock => Sys2Proof.Machine.execTankSet fuel stock s
  | .tankRead fuel => Sys2Proof.Machine.execTankRead fuel s
  | .washOpen washLane => Sys2Proof.Machine.execWashOpen washLane s
  | .washClose washLane => Sys2Proof.Machine.execWashClose washLane s
  | .washResetRestart washLane => Sys2Proof.Machine.execWashResetRestart washLane s
  | .washResetRelease washLane => Sys2Proof.Machine.execWashResetRelease washLane s
  | .washRead washLane => Sys2Proof.Machine.execWashRead washLane s
  | .laneState lane state => Sys2Proof.Machine.execLaneState lane state s
  | .move handle lane => Sys2Proof.Machine.execMove handle lane s
  | .beamDisable line => Sys2Proof.Machine.execBeamDisable line s
  | .beamEnable line => Sys2Proof.Machine.execBeamEnable line s
  | .laneRead lane => Sys2Proof.Machine.execLaneRead lane s
  | .rosterLoad day releaseEnd => Sys2Proof.Machine.execRosterLoad day releaseEnd s
  | .dutyAdd number pullOut length fuelSet => Sys2Proof.Machine.execDutyAdd number pullOut length fuelSet s
  | .rosterArm => Sys2Proof.Machine.execRosterArm s
  | .rosterClose => Sys2Proof.Machine.execRosterClose s
  | .rosterClear => Sys2Proof.Machine.execRosterClear s
  | .dutyBind number handle => Sys2Proof.Machine.execDutyBind number handle s
  | .dutyUnbind number => Sys2Proof.Machine.execDutyUnbind number s
  | .dutySwap first second => Sys2Proof.Machine.execDutySwap first second s
  | .dutyCancel number => Sys2Proof.Machine.execDutyCancel number s
  | .planBuild => Sys2Proof.Machine.execPlanBuild s
  | .rosterRead => Sys2Proof.Machine.execRosterRead s
  | .dutyRead slot => Sys2Proof.Machine.execDutyRead slot s
  | .stationRead address => Sys2Proof.Machine.execStationRead address s
  | .attentionRead => Sys2Proof.Machine.execAttentionRead s
  | .attentionEnable enables master => Sys2Proof.Machine.execAttentionEnable enables master s
  | .undefinedCode => Sys2Proof.Machine.execUndefinedCode s
  | .answerReady => Sys2Proof.Machine.execAnswerReady s

end Sys2Proof.Machine
end

