-- ==== Sys2Proof/Safety.lean ====
section
/-!
DEFINITION. The terms claims are stated in: safe runs, when a request or a code is taken, the phases of requests, and the laws of the device.
-/
namespace Sys2Proof.Machine

/-! Safe runs -/

/-- The next step is neither a fault nor a refusal. -/
def State.Safe (s : State) : Prop := ∃ t, step s = .next t

/-! When a command is taken -/

/-- The Control Port takes a request of a group at its owner now: no reset, no table check, none in hand, a phase of the group (R9, R10, R177). -/
abbrev State.Takes (s : State) (phases : Phase → Bool) : Prop :=
  s.boot = .running ∧ s.port.inHand = none ∧ phases s.phase = true

/-- The oldest code of the queue is e, of the station t of a kind, in OPEN (R172, R173). -/
abbrev State.Keyed (s : State) (e : CodeEntry) (t : Station) (kind : StationKind) (code : Nat) : Prop :=
  s.boot = .running ∧ s.phase = .opened ∧ s.line.queue.head? = some e ∧
    s.station e.address = some t ∧ t.kind = kind ∧ e.code.toNat = code

/-- The state in which an owner takes a number-consuming code: the entry has left the queue, the accumulator is 0 (R173 line 5). -/
def State.numberTaken (s : State) (e : CodeEntry) : State := s.popCode.setAccumulator e.address 0

/-- No re-test and no stale mark can follow an event: no ACTIVE roster, no running sweep (R159, R164). -/
abbrev State.Quiet (s : State) : Prop := s.roster.state ≠ .active ∧ s.roster.plan.status ≠ .running

/-- Slots in the order in which duties due at one event are taken: ascending pull-out, ties by ascending slot (R154). -/
abbrev State.InPullOutOrder (s : State) (slots : List Nat) : Prop :=
  slots.Pairwise fun a b => s.pullOutOf a < s.pullOutOf b ∨ (s.pullOutOf a = s.pullOutOf b ∧ a < b)

/-- Nothing that an earlier second event made due is still to be taken (log 3). -/
def State.NothingDue (s : State) : Prop :=
  s.roster.closeDue = false ∧ s.roster.missesDue = [] ∧ s.roster.checksDue = [] ∧
    (∀ h v, s.visit h = some v → v.timer ≠ some 0) ∧
    (∀ n i t, s.island n = some i → i.turn = some t → t.idle ≠ some 0) ∧
    (∀ n w, s.wash n = some w → w.drip ≠ some 0)

/-- The answer of a read request: RANGE for a number outside its range, NOT-FOUND for an item that is not there, else OK with the item's data. -/
def readAnswer {α : Type} (code : Byte) (inRange : Prop) [Decidable inRange] (item : Option α)
    (data : α → List Byte) : Answer :=
  if inRange then
    match item with
    | some x => ⟨code, .ok, data x⟩
    | none => ⟨code, .notFound, []⟩
  else ⟨code, .range, []⟩

/-! What an event leaves, for events that more than one statement names -/

/-- R71 for a record whose fuel result is written: the stage behind FUEL. -/
abbrev Visit.stageAfterFuel (v : Visit) : Stage :=
  if v.washResult = .unset ∧ v.skipWash = false then .wash else .berth

/-- R95, no target: the head of island n is DONE and exit-held with its need; it keeps the pump. -/
abbrev State.headHeldAt (s : State) (n h : Nat) (v : Visit) (need : Stage) : State :=
  { s with
    visits := s.visits.setIfInBounds h (some { v with state := .atIsland .done })
    router := { s.router with
      exitHeld := s.router.exitHeld ++ [⟨h, need, .island n, s.router.nextSequence⟩]
      nextSequence := (s.router.nextSequence + 1) % 65536 } }

/-- R95, R57, R75, R89, with a target: it is claimed, the head has left the queue of island n in transit to it, which is capacity, and GO is posted. -/
abbrev State.headGoneTo (s : State) (n h units : Nat) (i : Island) (v : Visit) (g : Target) : State :=
  ((({ s with
      islands := s.islands.setIfInBounds (n - 1) (some { i with queue := i.queue.filter (· != h) })
      visits := s.visits.setIfInBounds h (some { v with
        state := g.transitState, place := none, target := some g,
        timer := some s.times.transitLimit, movement := none })
      router := { s.router with scanPending := true } } : State).claim h units g).postAt .island n
        g.directive)

/-- The record h is CALLED for a duty and stands in lane n (R158). -/
abbrev State.CalledIn (s : State) (h n : Nat) : Prop :=
  ∃ slot d v, s.duty slot = some d ∧ d.state = .called ∧ d.bound = some h ∧ s.visit h = some v ∧
    v.place = some (.lane n)

/-- R147: u is what the close of the roster leaves of s. The unfinished duties are MISSED and unbound, a CALLED record is PARKED with its exit lock free and its lane post's directive NONE, a running sweep is ABANDONED and latched, every missed duty counts in DUTY-MISSED (R161), and nothing else changes. -/
structure State.ClosesTo (s u : State) : Prop where
  roster : u.roster = { s.roster with
    state := .closed, closeDue := false, missesDue := [], checksDue := [], plan := u.roster.plan,
    duties := s.roster.duties.map fun d =>
      if d.state.missable = true then { d with state := .missed, bound := none } else d }
  missed : ∀ h v slot d, s.visit h = some v → v.duty = some slot → s.duty slot = some d →
    d.state.missable = true → u.visit h = some (if d.state = .called
      then { v with duty := none, state := .parked, movement := none } else { v with duty := none })
  others : ∀ h v, s.visit h = some v →
    (∀ slot d, v.duty = some slot → s.duty slot = some d → d.state.missable = false) →
      u.visit h = some v
  locks : ∀ n, let freed := fun (l : Lane) => ∃ h, s.CalledIn h n ∧
      l.exitLock.map Movement.handle = some h
    (∀ l, s.lane n = some l → freed l → u.lane n = some (l.setExitLock none)) ∧
    (∀ l, s.lane n = some l → ¬ freed l → u.lane n = some l) ∧ (s.lane n = none → u.lane n = none)
  capacity : u.router.scanPending = true ↔ s.router.scanPending = true ∨ ∃ n l h,
    s.lane n = some l ∧ l.kind = .stack ∧ s.CalledIn h n ∧
      l.exitLock.map Movement.handle = some h
  directives : ∀ a, let blanked := ∃ h n, s.CalledIn h n ∧ s.stationOf .lanePost n = some a
    (blanked → u.station a = (s.station a).map fun t => { t with directive := .blank }) ∧
    (¬ blanked → u.station a = s.station a) ∧
    ∀ p, s.line.poll = some p → p.address = a →
      (blanked → u.line.poll = some { p with posted := true }) ∧
      (¬ blanked → u.line.poll = some p)
  sweep : u.roster.plan = (if s.roster.plan.status = .running
    then { s.roster.plan with status := .abandoned } else s.roster.plan)
  sweepEnd : u.attention.planEnded = (if s.roster.plan.status = .running
    then some ⟨.abandoned, s.roster.plan.bound, s.roster.plan.uncovered, s.roster.plan.unreachable⟩
    else s.attention.planEnded)
  latch : let count := (s.roster.duties.filter (·.state.missable)).length
    (count = 0 → u.attention.dutyMissed = s.attention.dutyMissed) ∧
    (∀ m, 0 < count → s.attention.dutyMissed = some m →
      u.attention.dutyMissed = some ⟨m.first, min 128 (m.count + count)⟩) ∧
    (∀ slot d, s.attention.dutyMissed = none → s.duty slot = some d → d.state.missable = true →
      (∀ x e, s.duty x = some e → e.state.missable = true →
        d.pullOut < e.pullOut ∨ (d.pullOut = e.pullOut ∧ slot ≤ x)) →
      u.attention.dutyMissed = some ⟨d.number, min 128 count⟩)
  frame : u = { s with
    roster := u.roster, visits := u.visits, lanes := u.lanes
    router := { s.router with scanPending := u.router.scanPending }
    line := { s.line with
      stations := u.line.stations
      poll := if s.line.poll = none then none else u.line.poll }
    attention := { s.attention with
      dutyMissed := u.attention.dutyMissed, planEnded := u.attention.planEnded } }

/-! The phases of the requests (the table of R10) -/

/-- The phases that take a request; none for a command that is no request. -/
def requestPhases : Instr → Option (Phase → Bool)
  | .status => some inAll
  | .more => some inBoth
  | .laneDefine .. | .laneUndefine .. | .islandDefine .. | .islandUndefine .. | .washDefine ..
  | .washUndefine .. | .tank .. | .stationDefine .. | .stationUndefine .. | .beams .. | .times ..
  | .setClock .. | .openYard => some inSetup
  | .layoutRead .. | .yardClear
  | .vehicleRead .. | .add .. | .remove .. | .update .. | .washAgeSet .. | .readNext | .seek ..
  | .tankDelivery .. | .tankSet .. | .tankRead ..
  | .rosterLoad .. | .dutyAdd .. | .rosterArm | .rosterClose | .rosterClear | .dutyCancel ..
  | .rosterRead | .dutyRead ..
  | .beamDisable .. | .beamEnable .. | .laneRead .. | .washRead .. | .stationRead ..
  | .attentionRead | .attentionEnable .. => some inBoth
  | .trimClock .. | .closeYard
  | .recordRead .. | .recordFind .. | .recordScan .. | .holdSet .. | .holdClear .. | .routeFlags ..
  | .locateLane .. | .locateApron .. | .locateRetire .. | .retire .. | .recall .. | .waitListRead
  | .move .. | .laneState ..
  | .islandOpen .. | .islandClose .. | .islandRead .. | .islandConfirm .. | .islandConfirmVoid ..
  | .washOpen .. | .washClose .. | .washResetRestart .. | .washResetRelease ..
  | .dutyBind .. | .dutyUnbind .. | .dutySwap .. | .planBuild => some inOpen
  | _ => none

/-! The codes (the table of R173) -/

/-- The station kind and the byte of a function code; none for a command that is no function code. -/
def codeRow : Instr → Option (StationKind × Nat)
  | .arrive => some (.gateIn, 0x41)
  | .level => some (.gateIn, 0x4C)
  | .gateDefect => some (.gateIn, 0x44)
  | .depart => some (.gateOut, 0x58)
  | .here => some (.island, 0x48)
  | .nozzleOut => some (.island, 0x4E)
  | .endCode => some (.island, 0x45)
  | .fullCode => some (.island, 0x46)
  | .voidCode => some (.island, 0x56)
  | .ready => some (.wash, 0x52)
  | .cycleOn => some (.wash, 0x57)
  | .cycleDone => some (.wash, 0x44)
  | .fault => some (.wash, 0x21)
  | .entered => some (.wash, 0x49)
  | .exited => some (.wash, 0x4F)
  | .faultClear => some (.wash, 0x5A)
  | .inCode => some (.lanePost, 0x49)
  | .outCode => some (.lanePost, 0x4F)
  | .lanePostDefect => some (.lanePost, 0x44)
  | .lanePostOk => some (.lanePost, 0x4B)
  | _ => none

/-- The codes that need the station's key on. -/
def keyOnCode : Instr → Bool
  | .gateDefect | .voidCode | .faultClear | .lanePostDefect | .lanePostOk => true
  | _ => false

/-- The codes that consume the keyed number. -/
def numberCode : Instr → Bool
  | .arrive | .level | .depart | .here | .endCode | .fullCode | .faultClear
  | .inCode | .outCode | .lanePostDefect | .lanePostOk => true
  | _ => false

/-! The laws of the device -/

/-- R15, R16: the ranges of the clock, and of the yard second that the last second event made. -/
abbrev State.ClockLaw (s : State) : Prop :=
  s.clock.second < 86400 ∧ s.clock.day < 65536 ∧ s.clock.eventSecond < 86400

/-- R24: the ranges of an entry's fields. -/
abbrev Entry.InRange (e : Entry) : Prop :=
  1 ≤ e.fleet ∧ e.fleet ≤ 9999 ∧ 1 ≤ e.tankSize ∧ e.tankSize ≤ 1000 ∧ e.interval ≤ 15 ∧
    e.age ≤ 255 ∧ 1 ≤ e.program ∧ e.program ≤ 8

/-- R24, R31, R33: the register stands in ascending order of fleet number, with at most 256 entries in their ranges; outside the end mark the cursor never exceeds the entry count. -/
abbrev State.RegisterLaw (s : State) : Prop :=
  s.register.Pairwise (fun a b => a.fleet < b.fleet) ∧ s.register.length ≤ 256 ∧
    (s.cursor = 256 ∨ s.cursor ≤ s.register.length) ∧ ∀ e ∈ s.register, e.InRange

/-- R1, R101, R103: the committed amount is at most the stock, the stock at most the capacity, the levels in their ranges, and the flags as the comparison gives them. -/
abbrev Tank.Law (t : Tank) : Prop :=
  t.committed ≤ t.stock ∧ t.stock ≤ t.capacity ∧ 1 ≤ t.reserveLevel ∧
    t.reserveLevel < t.lowLevel ∧ t.lowLevel ≤ 14 ∧
    t.lowFlag = decide (t.stock ≤ t.lowAmount) ∧ t.reserveFlag = decide (t.stock ≤ t.reserveAmount)

abbrev State.StockLaw (s : State) : Prop := s.diesel.Law ∧ s.gas.Law

/-- R167: the ranges of a station's entry. -/
abbrev Station.InRange (t : Station) : Prop :=
  t.accumulator ≤ 9999 ∧ t.missed ≤ 3 ∧ ∀ n, t.pendingLevel = some n → n ≤ 8

/-- R167, R171: the stations' entries in their ranges, at most 16 codes in the queue. -/
def State.LineLaw (s : State) : Prop :=
  s.line.queue.length ≤ 16 ∧ ∀ a t, s.station a = some t → t.InRange

/-- R177, R178: no answer is held while a request is in hand, and a held frame has at most 64 bytes of data and a sum of 0. -/
def State.PortLaw (s : State) : Prop :=
  (s.port.inHand ≠ none → s.port.held = none) ∧
    ∀ frame, s.port.held = some frame → frame.length ≤ 68 ∧ byteSum frame = 0

/-- R10: outside OPEN no record is live. -/
def State.SetupLaw (s : State) : Prop := s.phase ≠ .opened → ∀ h, s.visit h = none

/-- A duty that stands unbound (R144). -/
def DutyState.unbound : DutyState → Bool
  | .opened | .held .uncovered | .gone | .missed | .cancelled => true
  | _ => false

/-- R144, R150: an EMPTY roster has no duty; a binding stands on both sides; OPEN, HELD(UNCOVERED) and final duties are unbound. -/
def State.BindingLaw (s : State) : Prop :=
  (s.roster.state = .empty → s.roster.duties = []) ∧
    (∀ slot d h, s.duty slot = some d → d.bound = some h →
      ∃ v, s.visit h = some v ∧ v.duty = some slot) ∧
    (∀ h v slot, s.visit h = some v → v.duty = some slot →
      ∃ d, s.duty slot = some d ∧ d.bound = some h) ∧
    (∀ slot d, s.duty slot = some d → d.state.unbound = true → d.bound = none)

/-- R144, R158, R159, R162: only an ACTIVE roster has HELD and CALLED duties, only an ARMED or ACTIVE one has BOUND duties and a running sweep, and a CALLED record is bound to a CALLED duty. -/
def State.ActiveLaw (s : State) : Prop :=
  (∀ slot d, s.duty slot = some d → s.roster.state ≠ .active →
      d.state.reason = none ∧ d.state ≠ .called ∧
        (s.roster.state ≠ .armed → d.state ≠ .bound)) ∧
    (s.roster.plan.status = .running → s.roster.state = .armed ∨ s.roster.state = .active) ∧
    (∀ h v, s.visit h = some v → v.state = .called →
      ∃ slot d, v.duty = some slot ∧ s.duty slot = some d ∧ d.state = .called)

/-- R143, R144: at most 128 duties, their numbers distinct, no pull-out after the release end. -/
abbrev State.RosterLaw (s : State) : Prop :=
  s.roster.duties.length ≤ 128 ∧ (s.roster.duties.map (·.number)).Nodup ∧
    s.roster.releaseEnd ≤ 86399 ∧ ∀ d ∈ s.roster.duties, d.pullOut ≤ s.roster.releaseEnd

/-! The laws of records, places and locks -/

/-- R34: an in-yard field names the live record of its vehicle, and every live record is named by the entry of its vehicle. -/
def State.LinkLaw (s : State) : Prop :=
  (∀ e ∈ s.register, ∀ h, e.inYard = some h → ∃ v, s.visit h = some v ∧ v.fleet = e.fleet) ∧
    ∀ h v, s.visit h = some v → ∃ e, s.entry v.fleet = some e ∧ e.inYard = some h

/-- R43 by its table, with R57 and R124: what the state of a record says of its place, target, transit timer and pending movement. -/
def Visit.Placed (v : Visit) : Prop :=
  let stands := v.target = none ∧ v.timer = none
  let travels := v.place = none ∧ v.timer ≠ none ∧ v.movement = none
  match v.state with
  | .apron => stands ∧ v.movement = none ∧ v.place = some .apron
  | .toIsland => travels ∧ ∃ n, v.target = some (.island n)
  | .atIsland _ => stands ∧ v.movement = none ∧ ∃ n, v.place = some (.island n)
  | .toWash => travels ∧ ∃ n, v.target = some (.wash n)
  | .atWash _ => stands ∧ v.movement = none ∧ ∃ n, v.place = some (.wash n)
  | .toBerth => travels ∧ ∃ n, v.target = some (.lane n)
  | .parked => stands ∧ ∃ n, v.place = some (.lane n) ∧ v.movement ≠ some .gate ∧
      v.movement ≠ some (.lane n)
  | .called => stands ∧ v.movement = some .gate ∧ ∃ n, v.place = some (.lane n)
  | .toGate => travels ∧ v.target = some .gate
  | .astray => stands ∧ v.movement = none ∧ v.place = none

/-- R43: each live record stands in exactly one place, by its state, and no list names it twice or names another. -/
def State.PlaceLaw (s : State) : Prop :=
  (∀ h v, s.visit h = some v → v.Placed ∧ ∀ p, v.place = some p ↔ h ∈ s.listAt p) ∧
    ∀ p, (s.listAt p).Nodup ∧ ∀ h ∈ s.listAt p, s.visit h ≠ none

/-- The record at the front of a list is in a state that fits. -/
def State.HeadIs (s : State) (list : List Nat) (fits : VisitState → Prop) : Prop :=
  ∃ h v, list.head? = some h ∧ s.visit h = some v ∧ fits v.state

/-- R77: the apron part holds at most 16 entries, no record appears twice, and an exit-held entry is that of the head of its facility, DONE at an island, DRIPPING or DONE with no exit target at a wash lane. -/
def State.WaitLaw (s : State) : Prop :=
  s.router.apron.length ≤ 16 ∧
    ((s.router.exitHeld ++ s.router.apron).map (·.handle)).Nodup ∧
    (∀ e ∈ s.router.apron, e.place = .apron) ∧
    ∀ e ∈ s.router.exitHeld, (s.listAt e.place).head? = some e.handle ∧
      ((∃ n, e.place = .island n ∧ s.HeadIs (s.listAt e.place) (· = .atIsland .done)) ∨
        ∃ n w, e.place = .wash n ∧ e.need = .berth ∧ s.wash n = some w ∧ w.exitTarget = none ∧
          s.HeadIs w.list fun x => x = .atWash .dripping ∨ x = .atWash .done)

/-- The record travels to g, or stands with g as its pending movement. -/
def Visit.sentTo (v : Visit) (g : Target) : Bool := v.target == some g || v.movement == some g

/-- The handles of the records sent to g, ascending. -/
def State.sent (s : State) (g : Target) : List Nat :=
  s.live.filter fun h => ((s.visit h).map (·.sentTo g)).getD false

/-- The sub-position of a head whose turn is in a state (R87, R92, R93, R97). -/
def TurnState.sub : TurnState → IslandSub
  | .atPump => .atPump
  | .dispensing => .dispensing
  | .check => .check

/-- R89: at each island the turn belongs to the head, every other record is QUEUED, the reserved count is that of the records sent there, and the queue with it never exceeds 4. -/
def State.IslandLaw (s : State) : Prop :=
  (∀ n i, s.island n = some i →
    i.queue.length + i.reserved ≤ 4 ∧ i.reserved = (s.sent (.island n)).length ∧
      (∀ h v, h ∈ i.queue.tail → s.visit h = some v → v.state = .atIsland .queued) ∧
      (∀ t, i.turn = some t → s.HeadIs i.queue (· = .atIsland t.state.sub)) ∧
      (i.turn = none → i.queue ≠ [] →
        s.HeadIs i.queue fun x => x = .atIsland .queued ∨ x = .atIsland .done)) ∧
    ∀ h v n, s.visit h = some v → v.sentTo (.island n) = true → s.island n ≠ none

/-- R101: the committed amount of a tank is the sum of the limits of the turns at islands of its kind. -/
def State.CommittedLaw (s : State) : Prop :=
  ∀ k, (s.tank k).committed = ((oneTo 6).map fun n => match s.island n with
    | some i => if i.fuel = k then (i.turn.map (·.limit)).getD 0 else 0
    | none => 0).sum

/-- R110: only the head of a wash lane is in another sub-position than QUEUED, the list with the reserved count never exceeds 3, and the entry lock names the one record sent to the lane; with R113, R115: a start is posted for a QUEUED head, a drip runs for a DRIPPING one, an exit target is that of a DRIPPING or DONE one. -/
def State.WashLaw (s : State) : Prop :=
  (∀ n w, s.wash n = some w →
    w.list.length + w.reserved ≤ 3 ∧ w.reserved = (if w.entryLock = none then 0 else 1) ∧
      (∀ h, w.entryLock = some h → ∃ v, s.visit h = some v ∧ v.sentTo (.wash n) = true) ∧
      (∀ h v, h ∈ w.list.tail → s.visit h = some v → v.state = .atWash .queued) ∧
      (w.startPosted = true → s.HeadIs w.list (· = .atWash .queued)) ∧
      (w.drip ≠ none → s.HeadIs w.list (· = .atWash .dripping)) ∧
      (w.exitTarget ≠ none →
        s.HeadIs w.list fun x => x = .atWash .dripping ∨ x = .atWash .done)) ∧
    ∀ h v n, s.visit h = some v → v.sentTo (.wash n) = true →
      ∃ w, s.wash n = some w ∧ w.entryLock = some h

/-- The record h is the head of a wash lane whose exit target is lane n. -/
def State.LeavesWashFor (s : State) (h n : Nat) : Prop :=
  ∃ k w, s.wash k = some w ∧ w.list.head? = some h ∧ w.exitTarget = some n

/-- R123, R124: the used units of a lane are those of its list, the reserved units those of the record its entry lock names INBOUND, and together they never exceed the capacity. An INBOUND movement names the record sent to the lane, or leaving a wash lane for it; an OUTBOUND movement names the record at position 0 with the same pending movement; and each such record holds its locks. -/
def State.LaneLaw (s : State) : Prop :=
  (∀ n l, s.lane n = some l →
    l.used = (l.list.map s.unitsOf).sum ∧ l.used + l.reserved ≤ l.capacity ∧
      (l.mouth = none → l.reserved = 0) ∧
      (∀ h, l.mouth = some (.inbound h) → l.reserved = s.unitsOf h ∧
        ((∃ v, s.visit h = some v ∧ v.sentTo (.lane n) = true) ∨ s.LeavesWashFor h n)) ∧
      (∀ h d, l.mouth = some (.outbound h d) → l.reserved = 0 ∧ l.kind = .stack) ∧
      (∀ m, l.far = some m → l.kind = .through ∧ ∃ h d, m = .outbound h d) ∧
      (∀ h d, l.exitLock = some (.outbound h d) → l.list.head? = some h ∧
        ∃ v, s.visit h = some v ∧ v.movement = some d)) ∧
    (∀ h n, ((∃ v, s.visit h = some v ∧ v.sentTo (.lane n) = true) ∨ s.LeavesWashFor h n) →
      ∃ l, s.lane n = some l ∧ l.mouth = some (.inbound h)) ∧
    ∀ h v n d, s.visit h = some v → v.place = some (.lane n) → v.movement = some d →
      ∃ l, s.lane n = some l ∧ l.exitLock = some (.outbound h d)

/-- R158: a duty is CALLED exactly when its bound record is CALLED, and such a record is READY, at position 0 of its lane and named by that lane's exit lock. -/
def State.CalledLaw (s : State) : Prop :=
  (∀ slot d, s.duty slot = some d → d.state = .called → ∃ h v, d.bound = some h ∧
    s.visit h = some v ∧ v.state = .called) ∧
  ∀ h v, s.visit h = some v → v.state = .called →
    (∃ slot d, v.duty = some slot ∧ s.duty slot = some d ∧ d.state = .called) ∧ v.ready = true ∧
      ∃ n l, v.place = some (.lane n) ∧ s.lane n = some l ∧ l.list.head? = some h ∧
        l.exitLock = some (.outbound h .gate)

/-- The laws of the yard's records, places, counts and locks, which hold together (R43, R77, R89, R101, R110, R123, R124, R158). -/
structure State.YardLaw (s : State) : Prop where
  places : s.PlaceLaw
  waits : s.WaitLaw
  islands : s.IslandLaw
  committed : s.CommittedLaw
  washes : s.WashLaw
  lanes : s.LaneLaw
  calls : s.CalledLaw

end Sys2Proof.Machine
end

