-- ==== Sys2Proof/Certificates/Slice0/Obligations.lean ====
section
/-!
DEFINITION. The statements about the model, for the provers. Each docstring names the rules of spec/ it comes from; a clause that rests on a choice of the model names the log entry.
-/
open Sys2Proof Sys2Proof.Machine

/-! The queue, the port, power -/

/-- Log 1: a step takes the command at the front of the queue and runs it on the state with the queue's rest. Log 2 (the model's choice): on an empty queue the block idles. Log 25: every step answers a next state. -/
def Obligations.StepTakesFrontCommand : Prop :=
  (∀ (c : Instr) (rest : List Instr) (s : State),
     step { s with pending := c :: rest } = exec c { s with pending := rest }) ∧
  ((∀ s : State, s.pending = [] → step s = .next s) ∧ ∀ s : State, s.Safe)

/-- R177: a request transaction that arrives while a request is in hand is discarded, whether it comes as the row REQUEST_WHILE_IN_HAND or as any request. R9, R10: a request is answered BUSY with no data during the table check, and PHASE in a phase its group's row marks no; an earlier answer goes, with its parts unless the request is MORE, and nothing else changes. R179: BUSY comes before any test of the form, so a MALFORMED_REQUEST during the table check is answered BUSY under its first byte too. -/
def Obligations.RequestsMeetInHandBootAndPhase : Prop :=
  ((∀ (frame : List Byte) (s : State), exec (.requestWhileInHand frame) s = .next s) ∧
   (∀ (i : Instr) (p : Phase → Bool) (s : State),
     requestPhases i = some p → s.port.inHand ≠ none → exec i s = .next s) ∧
   ∀ (frame : List Byte) (s : State),
     s.port.inHand ≠ none → exec (.malformedRequest frame) s = .next s) ∧
  (∀ (i : Instr) (p : Phase → Bool) (code : Nat) (args : List Byte) (s : State),
     requestPhases i = some p → encodeArgs i = some (code, args) → s.port.inHand = none →
     let kept := fun (i : Instr) (s : State) => if i = .more then s.port.rest else none
     (s.boot = .checking →
       exec i s = .next { s with port :=
         { s.port with inHand := some ⟨byte code, .busy, []⟩, held := none, rest := kept i s } }) ∧
     (s.boot = .running → p s.phase = false →
       exec i s = .next { s with port :=
         { s.port with inHand := some ⟨byte code, .phase, []⟩, held := none, rest := kept i s } })) ∧
  ∀ (code : Byte) (rest : List Byte) (s : State), code ≠ 0 → s.boot = .checking →
    s.port.inHand = none → (∀ i, decodeFrame (code :: rest) ≠ .request i) →
    exec (.malformedRequest (code :: rest)) s = .next { s with port := { s.port with
      inHand := some ⟨code, .busy, []⟩, held := none
      rest := if code = 2 then s.port.rest else none } }

/-- R179: a request whose length or check fails is answered CHECK, one whose code is not in the table UNKNOWN, one whose argument length is not its code's RANGE, in that order, and changes nothing. R177: the taking of a request discards the answer held and its parts, the parts not where its code is that of MORE; that a MORE with a failed check keeps them is the model's choice (log 8). A mode byte in no list of 11.3 is answered RANGE in the phases of its group and PHASE in the others, which is the model's choice (log 8). The capacity of LANE is two bytes, as 11.3 gives it. -/
def Obligations.MalformedRequestIsAnswered : Prop :=
  ∀ (code n : Byte) (rest : List Byte) (s : State),
    code ≠ 0 → s.boot = .running → s.port.inHand = none →
    let frame := code :: n :: rest
    let broken := frame.length ≠ n.toNat + 3 ∨ byteSum frame ≠ 0
    exec (.malformedRequest [code]) s = .next (s.takeRequest ⟨code, .check, []⟩) ∧
    (broken → exec (.malformedRequest frame) s = .next (s.takeRequest ⟨code, .check, []⟩)) ∧
    (¬ broken → argLength code.toNat = none →
      exec (.malformedRequest frame) s = .next (s.takeRequest ⟨code, .unknown, []⟩)) ∧
    (∀ k, ¬ broken → argLength code.toNat = some k → n.toNat ≠ k →
      exec (.malformedRequest frame) s = .next (s.takeRequest ⟨code, .range, []⟩)) ∧
    (decodeFrame frame = .badMode code →
      let group := if code = 0x33 ∨ code = 0x4A then Phase.opened else .setup
      exec (.malformedRequest frame) s = .next
        (s.takeRequest ⟨code, if s.phase = group then .range else .phase, []⟩)) ∧
    (∀ a : Answer, s.takeRequest a = { s with port := { s.port with
      inHand := some a, held := none, rest := if a.code = 2 then s.port.rest else none } }) ∧
    argLength 0x02 = some 0 ∧ argLength 0x10 = some 5

/-- R177, R178: ANSWER READY builds the frame of the request in hand, echoed code, result, length and at most 64 bytes of data, closed by the check byte, and keeps the data beyond in parts; parts that the taking of the request left stay. R178: a read of all bytes of a held frame sends it and ends the holding; a read of fewer sends its first bytes and keeps it; with no answer held, bytes 0x00 are sent. R178: MORE is answered under the code and result of the earlier answer with the parts that remain, and STATE where none remains. -/
def Obligations.AnswersAreHeldReadAndContinued : Prop :=
  (∀ (s : State) (a : Answer), s.port.inHand = some a →
     exec .answerReady s = .next { s with port := { s.port with
       inHand := none
       held := some
         (let body := [a.code, byte a.result.code,
             byte (min 64 a.data.length + if 64 < a.data.length then 128 else 0)] ++ a.data.take 64
          body ++ [checkByte body])
       rest := if 64 < a.data.length then some { a with data := a.data.drop 64 } else s.port.rest } }) ∧
  (∀ (k : Nat) (s : State), s.boot ≠ .resetLow →
     (∀ frame, s.port.held = some frame → frame.length ≤ k →
       ∃ t, exec (.answerRead k) s = .next { s with port := t } ∧ t.held = none ∧
         t.miso.take frame.length = frame ∧ t.inHand = s.port.inHand ∧ t.rest = s.port.rest) ∧
     (∀ frame, s.port.held = some frame → k < frame.length →
       exec (.answerRead k) s = .next { s with port := { s.port with miso := frame.take k } }) ∧
     (s.port.held = none →
       exec (.answerRead k) s = .next { s with port := { s.port with miso := List.replicate k 0 } })) ∧
  (∀ s : State, s.Takes inBoth →
     (∀ a, s.port.rest = some a → exec .more s = .next (s.takeRequest a)) ∧
     (s.port.rest = none → exec .more s = .next (s.takeRequest ⟨0x02, .state, []⟩)))

/-- R9: POWER_ON, a low on RESETn, its rise, and the end of the table check. Every block stands at its power-on value; a pass leaves SETUP, a fail HALTED. That the queue stands, and that the port stands at the end of the check, are the model's choices (log 4, log 5, log 6). So are the values of State.reset that no rule gives: empty records of the bytes last sent (log 29), 0 for the second of the last second event (log 37), and an empty walk order, walk position 0 and a clear stale mark (log 39). R1, R7, R15, R24, R31, R41, R86, R107, R121, R130, R142, R143, R176, R181: the values the rules give after power-on. -/
def Obligations.PowerAndResetLeavePowerOnValues : Prop :=
  (∀ s : State,
     exec .powerOn s = .next { State.reset with pending := s.pending } ∧
     exec .resetnAssert s = .next { State.reset with boot := .resetLow, pending := s.pending } ∧
     (s.boot = .resetLow →
       exec .resetnRelease s = .next { State.reset with pending := s.pending }) ∧
     (s.boot = .checking → ∀ passed, exec (.tableCheckEnd passed) s = .next
       { State.reset with
         boot := .running, checkPassed := passed, phase := if passed then .setup else .halted,
         port := s.port, pending := s.pending })) ∧
  (let s := State.reset
   (∀ n, s.lane n = none ∧ s.island n = none ∧ s.wash n = none ∧ s.station n = none ∧
     s.visit n = none) ∧
   (∀ l, l < 48 → ∃ b, s.beam l = some b ∧ b.role = .unassigned ∧ b.enabled = true ∧ b.stray = false) ∧
   (∀ k, (s.tank k).capacity = 10000 ∧ (s.tank k).lowLevel = 4 ∧ (s.tank k).reserveLevel = 2 ∧
     (s.tank k).stock = 0 ∧ (s.tank k).committed = 0 ∧ (s.tank k).lowFlag = true ∧
     (s.tank k).reserveFlag = true ∧ (s.tank k).lowLatch = none) ∧
   (s.times.callLead = 600 ∧ s.times.missGrace = 300 ∧ s.times.transitLimit = 240 ∧
     s.times.idleTime = 120 ∧ s.times.dripTime = 90 ∧ s.times.horizon = 3600 ∧
     s.times.autoSwap = false ∧ s.times.autoBind = false) ∧
   (s.clock.second = 0 ∧ s.clock.day = 0 ∧ s.clock.isSet = false) ∧
   (s.register = [] ∧ s.cursor = 0) ∧
   (s.router.exitHeld = [] ∧ s.router.apron = [] ∧ s.router.scanPending = false ∧
     s.router.nextSequence = 0) ∧
   (s.roster.state = .empty ∧ s.roster.day = 0 ∧ s.roster.releaseEnd = 0 ∧ s.roster.duties = [] ∧
     s.roster.plan.status = .idle) ∧
   (s.line.queue = [] ∧ s.port.inHand = none ∧ s.cprdy = false) ∧
   (s.attention.enables = 0 ∧ s.attention.master = false ∧ s.attn = false))

/-! The clock -/

/-- R16, R17: a second event advances the yard second by one, and from 86399 to 0 with the next day, 65535 being followed by 0. R16: the second that the event made is kept for the owners' handlings of it, in a field of the model (log 37). In HALTED it changes nothing but the clock. -/
def Obligations.SecondEventAdvancesTheClock : Prop :=
  ∀ s : State, s.boot = .running → s.clock.second ≤ 86399 →
    (∃ t, exec .secondEvent s = .next t ∧ t.clock.isSet = s.clock.isSet ∧
      t.clock.eventSecond = t.clock.second ∧
      (s.clock.second < 86399 → t.clock.second = s.clock.second + 1 ∧ t.clock.day = s.clock.day) ∧
      (s.clock.second = 86399 → t.clock.second = 0 ∧ t.clock.day = (s.clock.day + 1) % 65536) ∧
      t.phase = s.phase ∧ t.times = s.times ∧ t.port = s.port ∧ t.pending = s.pending) ∧
    (s.phase = .halted →
      ∃ c, exec .secondEvent s = .next { s with clock := c })

/-- R20, R21, R154: with nothing left over from an earlier second event, a second event that is no day turn lowers every running timer by one, makes due the close of an ACTIVE roster at its release end, and else the misses and call checks whose times are reached, in ascending pull-out; no other block changes. That they are marked due and taken by their own commands is the model's choice (log 3). -/
def Obligations.SecondEventCountsTimersAndCompares : Prop :=
  ∀ s : State, s.boot = .running → s.phase ≠ .halted → s.NothingDue → s.clock.second < 86399 →
    ∃ t, exec .secondEvent s = .next t ∧
      (∀ h, t.visit h = (s.visit h).map fun v => { v with timer := v.timer.map (· - 1) }) ∧
      (∀ n, t.island n = (s.island n).map fun i =>
        { i with turn := i.turn.map fun x => { x with idle := x.idle.map (· - 1) } }) ∧
      (∀ n, t.wash n = (s.wash n).map fun w => { w with drip := w.drip.map (· - 1) }) ∧
      (t.roster.closeDue = true ↔
        s.roster.state = .active ∧ s.roster.releaseEnd ≤ s.clock.second + 1) ∧
      (∀ slot, slot ∈ t.roster.missesDue ↔
        s.roster.state = .active ∧ s.clock.second + 1 < s.roster.releaseEnd ∧
        ∃ d, s.duty slot = some d ∧ d.state.missable = true ∧
          d.pullOut + s.times.missGrace ≤ s.clock.second + 1) ∧
      (∀ slot, slot ∈ t.roster.checksDue ↔
        s.roster.state = .active ∧ s.clock.second + 1 < s.roster.releaseEnd ∧
        ∃ d, s.duty slot = some d ∧ d.state.checkable = true ∧
          s.callTime d ≤ s.clock.second + 1) ∧
      s.InPullOutOrder t.roster.missesDue ∧ s.InPullOutOrder t.roster.checksDue ∧
      t.roster.duties = s.roster.duties ∧ t.register = s.register ∧ t.router = s.router ∧
      t.lanes = s.lanes ∧ t.diesel = s.diesel ∧ t.gas = s.gas ∧ t.line = s.line ∧
      t.beams = s.beams ∧ t.attention = s.attention

/-- R17, R20, R21, R37, R148: at a day turn every wash age rises by one, stopping at 255; an ARMED roster whose day has come becomes ACTIVE, any other ARMED or ACTIVE roster closes; every running timer is lowered by one; and a roster then ACTIVE is compared at second 0. That the comparisons are marked due, and that a drip expiry due at the same second comes after the aging, is the model's choice (log 3). A close at the day turn has the effects of any close by R147, with unfinished duties MISSED and unbound, CALLED records PARKED with exit lock free and directive NONE, a running sweep ABANDONED and latched, the missed duties counted; that the first duty number latched is the earliest pull-out's is the model's choice (log 20). -/
def Obligations.DayTurnAgesAndTurnsTheRoster : Prop :=
  ∀ s : State, s.boot = .running → s.phase ≠ .halted → s.NothingDue → s.clock.second = 86399 →
    let turned := { s with
      clock := { s.clock with second := 0, day := (s.clock.day + 1) % 65536, eventSecond := 0 }
      register := s.register.map fun e => { e with age := if e.age < 255 then e.age + 1 else 255 }
      visits := s.visits.map (·.map fun v => { v with timer := v.timer.map (· - 1) })
      islands := s.islands.map (·.map fun i =>
        { i with turn := i.turn.map fun x => { x with idle := x.idle.map (· - 1) } })
      washes := s.washes.map (·.map fun w => { w with drip := w.drip.map (· - 1) }) }
    ∃ t, exec .secondEvent s = .next t ∧
      t.register = s.register.map (fun e => { e with age := if e.age < 255 then e.age + 1 else 255 }) ∧
      t.cursor = s.cursor ∧
      (s.roster.state = .armed → s.roster.day = (s.clock.day + 1) % 65536 →
        t.roster.state = .active ∧ t.roster.duties = s.roster.duties) ∧
      (s.roster.state = .armed → s.roster.day ≠ (s.clock.day + 1) % 65536 →
        t.roster.state = .closed) ∧
      (s.roster.state = .active → t.roster.state = .closed) ∧
      (s.BindingLaw → s.roster.state = .active ∨
        (s.roster.state = .armed ∧ s.roster.day ≠ (s.clock.day + 1) % 65536) →
        State.ClosesTo turned t) ∧
      (s.roster.state ≠ .armed → s.roster.state ≠ .active → t.roster.duties = s.roster.duties ∧
        t.roster.state = s.roster.state) ∧
      (∀ h v, s.visit h = some v →
        ∃ v', t.visit h = some v' ∧ v'.timer = v.timer.map (· - 1) ∧ v'.fleet = v.fleet) ∧
      (∀ n, t.island n = (s.island n).map fun i =>
        { i with turn := i.turn.map fun x => { x with idle := x.idle.map (· - 1) } }) ∧
      (∀ n, t.wash n = (s.wash n).map fun w => { w with drip := w.drip.map (· - 1) }) ∧
      (t.roster.state = .active →
        (t.roster.closeDue = true ↔ s.roster.releaseEnd = 0) ∧
        (∀ slot, slot ∈ t.roster.missesDue ↔ 0 < s.roster.releaseEnd ∧
          ∃ d, s.duty slot = some d ∧ d.state.missable = true ∧ d.pullOut + s.times.missGrace = 0) ∧
        (∀ slot, slot ∈ t.roster.checksDue ↔ 0 < s.roster.releaseEnd ∧
          ∃ d, s.duty slot = some d ∧ d.state.checkable = true ∧ s.callTime d = 0) ∧
        s.InPullOutOrder t.roster.missesDue ∧ s.InPullOutOrder t.roster.checksDue) ∧
      (t.roster.state ≠ .active → t.roster.closeDue = false ∧ t.roster.missesDue = [] ∧
        t.roster.checksDue = [])

/-- R18: SET CLOCK is answered RANGE, STATE or OK in this order; taken, it sets the second, the day and the flag and restarts the divider, and nothing else changes. R19: TRIM CLOCK is answered RANGE outside −60..+60 or where it would leave the day; taken, the yard second becomes its old value plus the amount, and nothing else of the yard changes. -/
def Obligations.ClockIsSetAndTrimmed : Prop :=
  (∀ (second day : Nat) (s : State), s.Takes inSetup →
     (86399 < second ∨ 65535 < day →
       exec (.setClock second day) s = .next (s.takeRequest ⟨0x1B, .range, []⟩)) ∧
     (second ≤ 86399 → day ≤ 65535 → s.roster.state = .armed ∨ s.roster.state = .active →
       exec (.setClock second day) s = .next (s.takeRequest ⟨0x1B, .state, []⟩)) ∧
     (second ≤ 86399 → day ≤ 65535 → s.roster.state ≠ .armed → s.roster.state ≠ .active →
       exec (.setClock second day) s = .next
         ({ s with clock := { s.clock with
            second := second, day := day, isSet := true, divider := 0 } }.takeRequest
           ⟨0x1B, .ok, []⟩))) ∧
  (∀ (amount : Int) (s : State), s.Takes inOpen →
     let sum : Int := s.clock.second + amount
     (amount < -60 ∨ 60 < amount ∨ sum < 0 ∨ 86399 < sum →
       exec (.trimClock amount) s = .next (s.takeRequest ⟨0x1C, .range, []⟩)) ∧
     (-60 ≤ amount → amount ≤ 60 → 0 ≤ sum → sum ≤ 86399 →
       ∃ k : Nat, (k : Int) = sum ∧
         exec (.trimClock amount) s = .next
           ({ s with clock := { s.clock with second := k } }.takeRequest ⟨0x1C, .ok, bytes3 k⟩)))

/-! The Fleet Register -/

/-- R25: on a table in ascending order of fleet number with at most 256 entries, the search by halving ends within 9 comparisons with the entry's index, or with the index of the first entry of a greater fleet number. -/
def Obligations.SearchByHalvingFindsTheEntry : Prop :=
  ∀ (table : List Entry) (n : Nat),
    table.Pairwise (fun a b => a.fleet < b.fleet) → table.length ≤ 256 →
    halve table n 9 0 table.length = lookup table n ∧
    (∀ i e, lookup table n = .found i e ↔ table[i]? = some e ∧ e.fleet = n) ∧
    (∀ i, lookup table n = .notFound i ↔
      (∀ e ∈ table, e.fleet ≠ n) ∧ i ≤ table.length ∧
      (∀ e ∈ table.take i, e.fleet < n) ∧ ∀ e ∈ table.drop i, n < e.fleet)

/-- R27, R33: ADD is answered by the first of its three tests that fails; taken, it inserts the entry at the insertion index with in-yard absent, an ordered table stays in order, and the cursor moves with the entries. -/
def Obligations.AddInsertsTheVehicle : Prop :=
  ∀ (fleet f l tank interval age program barred : Nat) (s : State), s.Takes inBoth →
    let inRange := 1 ≤ fleet ∧ fleet ≤ 9999 ∧ f ≤ 1 ∧ l ≤ 1 ∧ 1 ≤ tank ∧ tank ≤ 1000 ∧
      interval ≤ 15 ∧ age ≤ 255 ∧ 1 ≤ program ∧ program ≤ 8 ∧ barred ≤ 1
    let run := exec (.add fleet f l tank interval age program barred) s
    (¬ inRange → run = .next (s.takeRequest ⟨0x21, .range, []⟩)) ∧
    (∀ i e, inRange → lookup s.register fleet = .found i e →
      run = .next (s.takeRequest ⟨0x21, .conflict, []⟩)) ∧
    (∀ i, inRange → lookup s.register fleet = .notFound i → 256 ≤ s.register.length →
      run = .next (s.takeRequest ⟨0x21, .full, []⟩)) ∧
    (∀ i, inRange → lookup s.register fleet = .notFound i → s.register.length < 256 →
      ∃ e : Entry, e.fleet = fleet ∧ e.fuel.code = f ∧ e.length.code = l ∧ e.tankSize = tank ∧
        e.interval = interval ∧ e.age = age ∧ e.program = program ∧
        (e.barred = true ↔ barred = 1) ∧ e.inYard = none ∧
        (s.register.Pairwise (fun a b => a.fleet < b.fleet) →
          (s.register.take i ++ e :: s.register.drop i).Pairwise fun a b => a.fleet < b.fleet) ∧
        run = .next ({ s with
          register := s.register.take i ++ e :: s.register.drop i
          cursor := if s.cursor < 256 ∧ i ≤ s.cursor then s.cursor + 1 else s.cursor }.takeRequest
            ⟨0x21, .ok, byte i :: bytes2 (s.register.length + 1)⟩))

/-- R28, R33: REMOVE is answered RANGE, NOT-FOUND or STATE for a vehicle in the yard; taken, the entry goes, the entries above move down and the cursor moves with them. -/
def Obligations.RemoveTakesTheVehicleOut : Prop :=
  ∀ (fleet : Nat) (s : State), s.Takes inBoth →
    (¬ (1 ≤ fleet ∧ fleet ≤ 9999) →
      exec (.remove fleet) s = .next (s.takeRequest ⟨0x22, .range, []⟩)) ∧
    (∀ i, 1 ≤ fleet → fleet ≤ 9999 → lookup s.register fleet = .notFound i →
      exec (.remove fleet) s = .next (s.takeRequest ⟨0x22, .notFound, []⟩)) ∧
    (∀ i e, 1 ≤ fleet → fleet ≤ 9999 → lookup s.register fleet = .found i e →
      (e.inYard ≠ none → exec (.remove fleet) s = .next (s.takeRequest ⟨0x22, .state, []⟩)) ∧
      (e.inYard = none → exec (.remove fleet) s = .next
        ({ s with
          register := s.register.eraseIdx i
          cursor := if s.cursor < 256 ∧ i < s.cursor then s.cursor - 1 else s.cursor }.takeRequest
            ⟨0x22, .ok, byte i :: bytes2 (s.register.length - 1)⟩)))

/-- R29: UPDATE in range on a vehicle that is found replaces its six values, unless the vehicle is in the yard and its fuel kind or length class would change; number, wash age, in-yard field and cursor stay. R30: WASH AGE SET replaces the wash age alone. Each is answered RANGE for a number or value outside its range, NOT-FOUND for a vehicle not in the register, and UPDATE STATE for the change it refuses. -/
def Obligations.UpdateAndWashAgeSetReplaceTheirFields : Prop :=
  (∀ (fleet f l tank interval program barred age : Nat) (s : State), s.Takes inBoth →
    let known := 1 ≤ fleet ∧ fleet ≤ 9999
    let inRange := known ∧ f ≤ 1 ∧ l ≤ 1 ∧ 1 ≤ tank ∧ tank ≤ 1000 ∧ interval ≤ 15 ∧
      1 ≤ program ∧ program ≤ 8 ∧ barred ≤ 1
    (¬ inRange → exec (.update fleet f l tank interval program barred) s =
      .next (s.takeRequest ⟨0x23, .range, []⟩)) ∧
    (¬ known ∨ 255 < age →
      exec (.washAgeSet fleet age) s = .next (s.takeRequest ⟨0x24, .range, []⟩)) ∧
    ∀ i, lookup s.register fleet = .notFound i →
      (inRange → exec (.update fleet f l tank interval program barred) s =
        .next (s.takeRequest ⟨0x23, .notFound, []⟩)) ∧
      (known → age ≤ 255 →
        exec (.washAgeSet fleet age) s = .next (s.takeRequest ⟨0x24, .notFound, []⟩))) ∧
  ∀ (fleet i : Nat) (e : Entry) (s : State), s.Takes inBoth →
    1 ≤ fleet → fleet ≤ 9999 → lookup s.register fleet = .found i e →
    (∀ (fuel : FuelKind) (l : LengthClass) (tank interval program : Nat) (barred : Bool),
      1 ≤ tank → tank ≤ 1000 → interval ≤ 15 → 1 ≤ program → program ≤ 8 →
      let run := exec (.update fleet fuel.code l.code tank interval program barred.toNat) s
      let new := fun x : Entry =>
        { x with
          fuel := fuel, length := l, tankSize := tank, interval := interval, program := program,
          barred := barred }
      (e.inYard ≠ none ∧ (fuel ≠ e.fuel ∨ l ≠ e.length) →
        run = .next (s.takeRequest ⟨0x23, .state, []⟩)) ∧
      (e.inYard = none ∨ (fuel = e.fuel ∧ l = e.length) →
        run = .next ({ s with
          register := s.register.map fun x : Entry => if x.fleet = fleet then new x else x }.takeRequest
            ⟨0x23, .ok, entryBytes (new e) ++ bBool (new e).washDue⟩))) ∧
    (∀ age, age ≤ 255 →
      exec (.washAgeSet fleet age) s = .next ({ s with
        register := s.register.map fun x : Entry =>
          if x.fleet = fleet then { x with age := age } else x }.takeRequest
            ⟨0x24, .ok, entryBytes { e with age := age } ++ bBool ({ e with age := age }).washDue⟩))

/-- R31: READ NEXT answers the entry at the cursor and advances it, and at or past the entry count it is answered NOT-FOUND and sets the end mark. R32: SEEK is answered RANGE outside 1..9999, and else sets the cursor to the index of the number, or to its insertion index, from any value. -/
def Obligations.ReadNextAndSeekMoveTheCursor : Prop :=
  (∀ s : State, s.Takes inBoth →
     (∀ e, s.register[s.cursor]? = some e →
       exec .readNext s = .next ({ s with cursor := s.cursor + 1 }.takeRequest ⟨0x25, .ok,
         entryBytes e ++ b1 s.cursor ++ bBool e.washDue ++ b2 s.register.length⟩)) ∧
     (s.register.length ≤ s.cursor →
       exec .readNext s = .next ({ s with cursor := 256 }.takeRequest ⟨0x25, .notFound, []⟩))) ∧
  (∀ (fleet : Nat) (s : State), s.Takes inBoth →
     (¬ (1 ≤ fleet ∧ fleet ≤ 9999) →
       exec (.seek fleet) s = .next (s.takeRequest ⟨0x26, .range, []⟩)) ∧
     (1 ≤ fleet → fleet ≤ 9999 → ∀ i,
       (lookup s.register fleet = .notFound i ∨ ∃ e, lookup s.register fleet = .found i e) →
       exec (.seek fleet) s = .next
         ({ s with cursor := i }.takeRequest ⟨0x26, .ok, b2 i ++ b2 s.register.length⟩)))

/-! Reads -/

/-- R180: STATUS is answered OK in every phase with its fifteen bytes, and changes nothing. R26, R36, R68, R69, R85: the reads of the Fleet Register, of records and of the Wait List answer RANGE, NOT-FOUND or OK with the item, and change nothing. R42: a position is the record's index in its place's list. R126: the key is the pull-out of the record's duty in an ARMED or ACTIVE roster, else 86400. R51: READY is PARKED or CALLED with no hold, fuel and wash satisfied. The bytes of the data are by log 11. -/
def Obligations.RecordReadsAnswerTheirItem : Prop :=
  (∀ s : State, s.boot = .running → s.port.inHand = none →
     exec .status s = .next (s.takeRequest ⟨0x01, .ok,
       [byte s.phase.code, if s.checkPassed then 0 else 1, if s.clock.isSet then 1 else 0]
         ++ bytes3 s.clock.second ++ bytes2 s.clock.day
         ++ [byte s.live.length, byte s.router.apron.length, byte s.router.exitHeld.length,
           byte s.roster.state.code, byte s.roster.plan.status.code]
         ++ bytes2 s.inversionSum⟩)) ∧
  (∀ v : Visit, v.ready = true ↔
     (v.state = .parked ∨ v.state = .called) ∧ v.holds = ⟨false, false, false, false⟩ ∧
     (v.fuelResult = .done ∨ v.fuelResult = .full ∨ v.need = some 0 ∨ v.skipFuel = true) ∧
     (v.washResult = .notDue ∨ v.washResult = .full ∨ v.washResult = .short ∨
       v.washResult = .skipped)) ∧
  (∀ s : State,
     let placed := fun (h : Nat) (p : Place) =>
       (match p with
         | .apron => [(0 : Byte), 0]
         | .island n => [1, byte n]
         | .wash n => [2, byte n]
         | .lane n => [3, byte n]) ++ [byte (((s.listAt p).findIdx? (· == h)).getD 0)]
     let aim := fun (x : Option Target) => match x with
       | some (.island n) => [(1 : Byte), byte n]
       | some (.wash n) => [2, byte n]
       | some (.lane n) => [3, byte n]
       | some .gate => [4, 0]
       | none => [0xFF, 0xFF]
     let flag := fun (b : Bool) => if b then 1 else 0
     let dutyOf := fun (v : Visit) => v.duty.bind s.duty
     let key := fun (v : Visit) =>
       if s.roster.state = .armed ∨ s.roster.state = .active then
         match dutyOf v with
         | some d => d.pullOut
         | none => 86400
       else 86400
     let record := fun (h : Nat) (v : Visit) =>
       [byte h] ++ bytes2 v.fleet ++ [byte v.state.code] ++ o1 v.state.sub
         ++ (match v.place with
             | some p => placed h p
             | none => [0xFF, 0xFF, 0xFF])
         ++ aim v.target ++ o2 v.timer ++ aim v.movement
         ++ bytes3 v.arrivalSecond ++ bytes2 v.arrivalDay ++ o2 v.need ++ bytes2 v.taken
         ++ [byte v.fuelResult.code, byte v.washResult.code,
             byte (flag v.skipFuel + 2 * flag v.skipWash),
             byte (flag v.holds.defect + 2 * flag v.holds.dispatch + 4 * flag v.holds.fuelOwed
               + 8 * flag v.holds.fuelUnconfirmed)]
         ++ bytes3 (key v) ++ [byte (flag v.ready)] ++ o1 v.duty
         ++ (match dutyOf v with
             | some d => [1] ++ bytes2 d.number ++ [byte d.state.code]
             | none => [0, 0xFF, 0xFF, 0xFF])
     let waiting := fun (e : WaitEntry) =>
       [byte e.handle] ++ bytes2 (s.fleetOf e.handle) ++ [byte e.need.code] ++ placed e.handle e.place
         ++ bytes2 e.sequence
     let waits := s.router.exitHeld ++ s.router.apron
     (s.Takes inBoth → ∀ fleet,
       (∀ i e, 1 ≤ fleet → fleet ≤ 9999 → lookup s.register fleet = .found i e →
         exec (.vehicleRead fleet) s = .next (s.takeRequest ⟨0x20, .ok,
           bytes2 e.fleet ++ [byte e.fuel.code, byte e.length.code] ++ bytes2 e.tankSize
             ++ [byte e.interval, byte e.age, byte e.program, if e.barred then 1 else 0]
             ++ o1 e.inYard ++ [byte i, if e.interval ≠ 0 ∧ e.interval ≤ e.age then 1 else 0]
             ++ bytes2 s.register.length⟩)) ∧
       (∀ i, 1 ≤ fleet → fleet ≤ 9999 → lookup s.register fleet = .notFound i →
         exec (.vehicleRead fleet) s = .next (s.takeRequest ⟨0x20, .notFound, []⟩)) ∧
       (¬ (1 ≤ fleet ∧ fleet ≤ 9999) →
         exec (.vehicleRead fleet) s = .next (s.takeRequest ⟨0x20, .range, []⟩))) ∧
     (s.Takes inOpen →
       (∀ h, exec (.recordRead h) s = .next (s.takeRequest
         (readAnswer 0x35 (h ≤ 127) (s.visit h) (record h)))) ∧
       (∀ fleet h v, 1 ≤ fleet → fleet ≤ 9999 → s.inYardOf fleet = some h → s.visit h = some v →
         exec (.recordFind fleet) s = .next (s.takeRequest ⟨0x36, .ok, record h v⟩)) ∧
       (∀ fleet, 1 ≤ fleet → fleet ≤ 9999 → s.inYardOf fleet = none →
         exec (.recordFind fleet) s = .next (s.takeRequest ⟨0x36, .notFound, []⟩)) ∧
       (∀ fleet, ¬ (1 ≤ fleet ∧ fleet ≤ 9999) →
         exec (.recordFind fleet) s = .next (s.takeRequest ⟨0x36, .range, []⟩)) ∧
       (∀ h, 127 < h → exec (.recordScan h) s = .next (s.takeRequest ⟨0x37, .range, []⟩)) ∧
       (∀ h k v, h ≤ k → k ≤ 127 → s.visit k = some v →
         (∀ j, h ≤ j → j < k → s.visit j = none) →
         exec (.recordScan h) s = .next (s.takeRequest ⟨0x37, .ok, record k v⟩)) ∧
       (∀ h, h ≤ 127 → (∀ j, h ≤ j → j ≤ 127 → s.visit j = none) →
         exec (.recordScan h) s = .next (s.takeRequest ⟨0x37, .notFound, []⟩)) ∧
       exec .waitListRead s = .next (s.takeRequest ⟨0x39, .ok,
         [byte s.router.exitHeld.length, byte s.router.apron.length, byte waits.length]
           ++ waits.flatMap waiting⟩)))

/-- R8, R100, R106, R120, R141, R165, R175: the reads of facilities, tanks, layout items, the roster and stations answer RANGE, NOT-FOUND or OK with the item's data, and change nothing. R127: the inversion count of a lane is the number of pairs of positions i before j with the key at i greater; the late-blocker count of a record is the number of records in front of it with a greater key. A facility's station is the lowest address bound to it, its line the lowest with the role: R8 says so of LAYOUT READ, and that WASH READ and LANE READ do the same is the model's choice (log 34). That DUTY READ sends the record's state as its byte alone is the model's choice (log 35), and so is the layout of a lane's lines and locks (log 38). The bytes are by log 11, the facility number of a gate station and the numbers that LAYOUT READ takes by log 12, the one-shot reply by log 33. -/
def Obligations.FacilityReadsAnswerTheirItem : Prop :=
  ∀ (n : Nat) (s : State),
    let flag := fun (b : Bool) => byte (if b then 1 else 0)
    let gone := fun (k : Nat) => List.replicate k (0xFF : Byte)
    let key := fun (v : Visit) =>
      if s.roster.state = .armed ∨ s.roster.state = .active then
        match v.duty.bind s.duty with
        | some d => d.pullOut
        | none => 86400
      else 86400
    let shown := fun (d : Directive) => match d with
      | .blank => [(0 : Byte), 0, 0, 0, 0]
      | .go .apron => [1, 0, 0, 0, 0]
      | .go (.island k) => [1, 1, byte k, 0, 0]
      | .go (.wash k) => [1, 2, byte k, 0, 0]
      | .go (.lane k) => [1, 3, byte k, 0, 0]
      | .authorise l f => [2] ++ bytes2 l ++ bytes2 f
      | .stop => [3, 0, 0, 0, 0]
      | .washStart p => [4, byte p, 0, 0, 0]
      | .call f => [5] ++ bytes2 f ++ [0, 0]
    let island := fun (i : Island) =>
      let head := i.queue.head?.bind s.visit
      [byte i.fuel.code] ++ o1 (s.stationOf .island n)
        ++ [byte i.state.code, byte i.reserved, byte i.queue.length]
        ++ i.queue.flatMap (fun h => byte h :: match s.visit h with
            | some v => bytes2 v.fleet ++ o1 v.state.sub
            | none => gone 3)
        ++ o2 (head.bind (·.need)) ++ o2 (head.map (·.taken)) ++ o2 (head.map (·.progress))
        ++ (match i.turn with
            | some x => [byte x.state.code] ++ bytes2 x.limit ++ o2 x.idle
            | none => gone 5)
        ++ (match i.last with
            | some x => bytes2 x.fleet ++ [byte x.handle, byte x.ending.code] ++ bytes2 x.limit
                ++ o2 x.reported ++ o2 x.settled ++ [flag x.overrun] ++ bytes3 x.second
                ++ o1 (x.result.map (·.code))
            | none => gone 15)
    let wash := fun (w : WashLane) =>
      o1 (s.stationOf .wash n) ++ o1 (s.lineOf (.washEntry n)) ++ o1 (s.lineOf (.washExit n))
        ++ [byte w.state.code, flag w.machineReady, flag w.startPosted] ++ o1 w.entryLock
        ++ [byte w.reserved, byte w.list.length]
        ++ w.list.flatMap (fun h => byte h :: match s.visit h with
            | some v => bytes2 v.fleet ++ o1 v.state.sub ++ [byte v.washResult.code]
            | none => gone 4)
        ++ o2 w.drip ++ o1 w.exitTarget
        ++ [flag (match w.list.head? with
            | some h => (s.visit h).isSome && s.router.exitHeld.any (·.handle == h)
            | none => false)]
        ++ (match (s.stationOf .wash n).bind s.station with
            | some t => shown t.directive
            | none => gone 5)
    let line := fun (r : BeamRole) => match s.lineOf r with
      | some l => (match s.beam l with
        | some b => [byte l, flag b.enabled, flag b.stray]
        | none => gone 3)
      | none => gone 3
    let lock := fun (x : Option Movement) => match x with
      | none => gone 4
      | some (.inbound h) => [byte h, 0] ++ gone 2
      | some (.outbound h g) => [byte h, 1] ++ (match g with
        | .island k => [1, byte k]
        | .wash k => [2, byte k]
        | .lane k => [3, byte k]
        | .gate => [4, 0])
    let lane := fun (l : Lane) =>
      [byte l.kind.code] ++ bytes2 l.capacity
        ++ (match l.kind with
            | .stack => line (.laneMouth n)
            | .through => line (.laneEntry n) ++ line (.laneExit n))
        ++ o1 (s.stationOf .lanePost n)
        ++ [byte l.state.code, byte l.used, byte l.reserved, byte (s.inversions n)]
        ++ (match l.kind with
            | .stack => lock l.mouth
            | .through => lock l.mouth ++ lock l.far)
        ++ [byte l.list.length]
        ++ l.list.flatMap (fun h => byte h :: match s.visit h with
            | some v => bytes2 v.fleet ++ [byte (s.unitsOf h), byte v.state.code] ++ bytes3 (key v)
                ++ o1 (l.list.findIdx? (· == h)) ++ [byte (s.lateBlockers l.list h)]
            | none => gone 9)
    let station := fun (t : Station) =>
      [byte n, byte t.kind.code, byte t.facility, byte t.presence.code, byte t.missed]
        ++ (match t.last with
            | some x => [flag x.key, flag x.fault]
            | none => gone 2)
        ++ bytes2 t.accumulator ++ o1 t.pendingLevel ++ [flag t.pendingDefect] ++ shown t.directive
        ++ (match t.reply with
            | none => [0, 0]
            | some .accept => [1, 0]
            | some (.refuse x) => [2, byte x.code]
            | some .repeatCodes => [3, 0]
            | some .closed => [4, 0])
        ++ [byte (s.line.queue.filter fun e => e.address == n).length,
            byte (16 - s.line.queue.length)]
    let duty := fun (d : Duty) =>
      let v := d.bound.bind s.visit
      [byte n] ++ bytes2 d.number ++ bytes3 d.pullOut
        ++ [byte d.length.code, byte d.fuelSet.code, byte d.state.code] ++ o1 d.bound
        ++ o1 (d.state.reason.map (·.code)) ++ [flag d.swapped]
        ++ bytes3 (d.pullOut - s.times.callLead)
        ++ (match s.roster.state with
            | .armed => [1] ++ bytes3 (BitVec.ofInt 24
                ((86400 : Int) - s.clock.second + d.pullOut)).toNat
            | .active => [1] ++ bytes3 (BitVec.ofInt 24 ((d.pullOut : Int) - s.clock.second)).toNat
            | _ => [0, 0xFF, 0xFF, 0xFF])
        ++ o2 (v.map (·.fleet)) ++ o1 (v.map (·.state.code))
        ++ o1 (v.map fun v => if v.ready then 1 else 0)
    let plan := s.roster.plan
    (s.Takes inOpen →
      exec (.islandRead n) s = .next (s.takeRequest
        (readAnswer 0x43 (1 ≤ n ∧ n ≤ 6) (s.island n) island))) ∧
    (∀ l, s.lane n = some l →
      s.inversions n = ((List.range l.list.length).map fun i =>
        ((l.list.drop (i + 1)).filter fun h =>
          decide (s.key h < s.key (l.list.getD i 0))).length).sum) ∧
    (∀ list h, s.lateBlockers list h = ((list.takeWhile (· != h)).filter fun g =>
      decide (s.key h < s.key g)).length) ∧
    (∀ h v, s.visit h = some v → s.key h = key v ∧ ∀ e, s.entry v.fleet = some e →
      s.unitsOf h = if e.length = .artic then 2 else 1) ∧
    (∀ k m a, s.stationOf k m = some a ↔
      let fits := fun b => ∃ t, s.station b = some t ∧ t.kind = k ∧ t.facility = m
      fits a ∧ ∀ b, b < a → ¬ fits b) ∧
    (∀ x l, s.lineOf x = some l ↔
      let fits := fun j => ∃ b, s.beam j = some b ∧ b.role = x
      fits l ∧ ∀ j, j < l → ¬ fits j) ∧
    (s.Takes inBoth →
      exec (.washRead n) s = .next (s.takeRequest
        (readAnswer 0x4B (1 ≤ n ∧ n ≤ 3) (s.wash n) wash)) ∧
      exec (.laneRead n) s = .next (s.takeRequest
        (readAnswer 0x54 (1 ≤ n ∧ n ≤ 20) (s.lane n) lane)) ∧
      exec (.stationRead n) s = .next (s.takeRequest
        (readAnswer 0x70 (1 ≤ n ∧ n ≤ 16) (s.station n) station)) ∧
      exec (.dutyRead n) s = .next (s.takeRequest
        (readAnswer 0x6B (n ≤ 127) (s.duty n) duty)) ∧
      exec .rosterRead s = .next (s.takeRequest ⟨0x6A, .ok,
        [byte s.roster.state.code] ++ bytes2 s.roster.day ++ bytes3 s.roster.releaseEnd
          ++ [byte s.roster.duties.length, byte plan.status.code, byte plan.bound,
              byte plan.uncovered, byte plan.unreachable]
          ++ o1 (if plan.status = .running then some plan.walk else none)
          ++ (List.range 8).map fun c =>
            byte (s.roster.duties.filter fun d => d.state.code == c).length⟩) ∧
      (∀ k : FuelKind, exec (.tankRead k.code) s = .next (s.takeRequest ⟨0x46, .ok,
        let t := s.tank k
        bytes2 t.capacity ++ bytes2 t.stock ++ bytes2 t.committed
          ++ [byte t.lowLevel, byte t.reserveLevel]
          ++ bytes2 (t.lowLevel * t.capacity / 16) ++ bytes2 (t.reserveLevel * t.capacity / 16)
          ++ [if t.lowFlag then 1 else 0, if t.reserveFlag then 1 else 0]
          ++ bytes2 (t.stock - t.committed - t.reserveLevel * t.capacity / 16)
          ++ bytes2 (t.stock - t.committed)⟩)) ∧
      (2 ≤ n → exec (.tankRead n) s = .next (s.takeRequest ⟨0x46, .range, []⟩)) ∧
      exec (.layoutRead 0 n) s = .next (s.takeRequest
        (readAnswer 0x17 (1 ≤ n ∧ n ≤ 20) (s.lane n) fun l =>
          [byte l.kind.code] ++ bytes2 l.capacity ++ o1 (s.lineOf (.laneMouth n))
            ++ o1 (s.lineOf (.laneEntry n)) ++ o1 (s.lineOf (.laneExit n))
            ++ o1 (s.stationOf .lanePost n))) ∧
      exec (.layoutRead 1 n) s = .next (s.takeRequest
        (readAnswer 0x17 (1 ≤ n ∧ n ≤ 6) (s.island n) fun i =>
          [byte i.fuel.code] ++ o1 (s.stationOf .island n))) ∧
      exec (.layoutRead 2 n) s = .next (s.takeRequest
        (readAnswer 0x17 (1 ≤ n ∧ n ≤ 3) (s.wash n) fun _ => o1 (s.stationOf .wash n))) ∧
      (∀ k : FuelKind, exec (.layoutRead 3 k.code) s = .next (s.takeRequest ⟨0x17, .ok,
        bytes2 (s.tank k).capacity ++ [byte (s.tank k).lowLevel, byte (s.tank k).reserveLevel]⟩)) ∧
      (2 ≤ n → exec (.layoutRead 3 n) s = .next (s.takeRequest ⟨0x17, .range, []⟩)) ∧
      (∀ k, 7 ≤ k → exec (.layoutRead k n) s = .next (s.takeRequest ⟨0x17, .range, []⟩)) ∧
      exec (.layoutRead 4 n) s = .next (s.takeRequest
        (readAnswer 0x17 (1 ≤ n ∧ n ≤ 16) (s.station n) fun t =>
          [byte t.kind.code, byte t.facility])) ∧
      exec (.layoutRead 5 n) s = .next (s.takeRequest
        (readAnswer 0x17 (n ≤ 47) (s.beam n) fun b => [byte b.role.code] ++ o1 b.role.facility)) ∧
      exec (.layoutRead 6 n) s = .next (s.takeRequest ⟨0x17, .ok,
        bytes2 s.times.callLead ++ bytes2 s.times.missGrace ++ bytes2 s.times.transitLimit
          ++ bytes2 s.times.idleTime ++ bytes2 s.times.dripTime ++ bytes2 s.times.horizon
          ++ [if s.times.autoSwap then 1 else 0, if s.times.autoBind then 1 else 0]⟩))

/-! The end of an event, records -/

/-- R159, R164: at the end of an event in a yard with no ACTIVE roster and no running sweep nothing further happens; in any yard, what follows an event changes records only in state, pending movement and duty, and only records PARKED or CALLED, lanes only in their locks, and no other block but the duties and the stale mark of the roster and the directives of the lane posts: the Yard Line's codes, round and sent frame, every other field of a station, and the poll in progress but its mark that a directive was posted, stay. R159: in an ACTIVE roster the HELD duties that a trigger meets are re-tested, in ascending pull-out; a re-test is the call check. Which changes are passed as triggers is by log 17, and that they are met in the state that the event left, so that a duty HELD by the event itself is re-tested too, is the model's reading (log 28). R164: the stale mark of a running sweep is set where the event, or its re-tests, changed the binding of a duty already walked or the list of its record's lane (log 18). -/
def Obligations.EndOfEventTouchesOnlyDutiesAndCalls : Prop :=
  ∀ s0 s1 : State,
    ((s1.Quiet → settle s0 s1 = s1) ∧ settle s1 s1 = s1 ∧
     let t := settle s0 s1
     t = { s1 with visits := t.visits, lanes := t.lanes, roster := t.roster, line := t.line } ∧
     (∀ h, s1.visit h = none → t.visit h = none) ∧
     (∀ h v, s1.visit h = some v →
       ∃ x m d, t.visit h = some { v with state := x, movement := m, duty := d } ∧
         (v.standing = false → x = v.state ∧ m = v.movement ∧ d = v.duty)) ∧
     (∀ n l, s1.lane n = some l →
       ∃ a b, t.lane n = some { l with mouth := a, far := b }) ∧
     t.line = { s1.line with stations := t.line.stations, poll := t.line.poll } ∧
     (∀ a, s1.station a = none → t.station a = none) ∧
     (∀ a x, s1.station a = some x → ∃ d, t.station a = some { x with directive := d } ∧
       (x.kind ≠ .lanePost → d = x.directive)) ∧
     (s1.line.poll = none → t.line.poll = none) ∧
     (∀ p, s1.line.poll = some p → ∃ b, t.line.poll = some { p with posted := b } ∧
       (p.posted = true → b = true)) ∧
     t.roster = { s1.roster with
       duties := t.roster.duties
       plan := { s1.roster.plan with stale := t.roster.plan.stale } } ∧
     t.roster.duties.length = s1.roster.duties.length ∧
     (∀ slot d, s1.duty slot = some d → d.state.reason = none → d.state ≠ .bound →
       ∃ d', t.duty slot = some d' ∧ d'.state = d.state ∧ d'.bound = d.bound)) ∧
    (let seen := fun (s : State) (h : Nat) => (s.visit h).map fun v =>
       (v.state, v.place, s.position h, v.holds, v.skipFuel, v.skipWash, v.fuelResult, v.washResult)
     let freedOrMoved := fun (old new : Option Movement) =>
       (∃ m, old = some m ∧ new ≠ some m) ∨
         (old = none ∧ ∃ h g, new = some (.outbound h g) ∧ g ≠ .gate)
     let laneChanged := fun (n : Nat) => ∃ a b, s0.lane n = some a ∧ s1.lane n = some b ∧
       (a.list ≠ b.list ∨ a.state ≠ b.state ∨ freedOrMoved a.mouth b.mouth ∨
         freedOrMoved a.far b.far)
     let ready := fun (s : State) (h : Nat) => ∃ v, s.visit h = some v ∧ v.ready = true
     let bound := fun (s : State) (h : Nat) => (s.visit h).bind (·.duty) ≠ none
     let offered := ∃ n l h, s1.lane n = some l ∧ l.list.head? = some h ∧ ready s1 h ∧
       (¬ ready s0 h ∨ (¬ bound s1 h ∧ (bound s0 h ∨
         (s0.lane n).bind (fun l => l.list.head?) ≠ some h ∨
         ((s0.lane n).bind Lane.exitLock ≠ none ∧ l.exitLock = none))))
     let trigger := fun (slot : Nat) => ∃ d r, s1.duty slot = some d ∧ d.state = .held r ∧
       (s0.boundOf slot ≠ d.bound ∨
         (∃ h, d.bound = some h ∧ (seen s0 h ≠ seen s1 h ∨
           ∃ n, (s1.visit h).bind (·.place) = some (.lane n) ∧ laneChanged n)) ∨
         (d.bound = none ∧ r = .uncovered ∧ s1.times.autoBind = true ∧ offered))
     (s1.roster.state ≠ .active → retests s0 s1 = s1) ∧
     (s1.roster.state = .active → ∃ order : List Nat, s1.InPullOutOrder order ∧
       (∀ slot, slot ∈ order ↔ trigger slot) ∧ retests s0 s1 = order.foldl State.retest s1) ∧
     ∀ slot, ((∃ d r, s1.duty slot = some d ∧ d.state = .held r) →
         s1.retest slot = s1.callCheckFollowed slot) ∧
       ((∀ d r, s1.duty slot = some d → d.state ≠ .held r) → s1.retest slot = s1)) ∧
    let touched := fun (a b : State) => a.roster.plan.status = .running ∧
      b.roster.plan.status = .running ∧
      ∃ slot ∈ a.roster.plan.order.take a.roster.plan.walk,
        a.boundOf slot ≠ b.boundOf slot ∨
        ∃ h n, a.boundOf slot = some h ∧
          ((a.visit h).bind (·.place) = some (.lane n) ∨
            (b.visit h).bind (·.place) = some (.lane n)) ∧
          a.listAt (.lane n) ≠ b.listAt (.lane n)
    let marked := fun (s t : State) (x : Prop) =>
      t = { s with roster := { s.roster with
        plan := { s.roster.plan with stale := t.roster.plan.stale } } } ∧
      (t.roster.plan.stale = true ↔ s.roster.plan.stale = true ∨ x)
    ∃ m : State, marked s1 m (touched s0 s1) ∧
      marked (retests s0 m) (settle s0 s1) (touched m (retests s0 m))

/-- R52, R53, R55: HOLD SET adds a DEFECT or DISPATCH hold and HOLD CLEAR removes any; the record's other fields stay, unless it is CALLED and then not READY: it is PARKED with no movement, its exit lock is free, and its duty is HELD(NOT-READY), still bound. A handle outside 0..127 or a hold outside the request's is answered RANGE, a free slot NOT-FOUND; that a hold the host cannot set is answered RANGE before a free slot is tested is the model's choice (log 30). R136: DEFECT and OK at a lane post, with the key and a number, add and remove the DEFECT hold of a record in the post's lane; the number of no vehicle is refused UNKNOWN-VEHICLE, that of a vehicle elsewhere NOT-EXPECTED. -/
def Obligations.HoldsAreSetAndCleared : Prop :=
  (∀ (h c : Nat) (s : State), s.Takes inOpen →
     (127 < h ∨ 2 ≤ c → exec (.holdSet h c) s = .next (s.takeRequest ⟨0x30, .range, []⟩)) ∧
     (127 < h ∨ 4 ≤ c → exec (.holdClear h c) s = .next (s.takeRequest ⟨0x31, .range, []⟩)) ∧
     (h ≤ 127 → s.visit h = none →
       (c ≤ 1 → exec (.holdSet h c) s = .next (s.takeRequest ⟨0x30, .notFound, []⟩)) ∧
       (c ≤ 3 → exec (.holdClear h c) s = .next (s.takeRequest ⟨0x31, .notFound, []⟩)))) ∧
  (∀ (h : Nat) (v : Visit) (s : State), s.Takes inOpen → s.visit h = some v →
     (∀ c x, holdOf c = some x → c ≤ 1 →
       exec (.holdSet h c) s = .next (let t := settle s (s.putHold h x true)
         t.takeRequest ⟨0x30, .ok, holdsAnswer t h⟩)) ∧
     (∀ c x, holdOf c = some x →
       exec (.holdClear h c) s = .next (let t := settle s (s.putHold h x false)
         t.takeRequest ⟨0x31, .ok, holdsAnswer t h⟩)) ∧
     (∀ x b, let v' := { v with holds := v.holds.put b x }
       (v.state ≠ .called ∨ v'.ready = true →
         s.putHold h x b = { s with visits := s.visits.setIfInBounds h (some v') }) ∧
       (∀ n l slot d, v.state = .called → v'.ready = false → v.place = some (.lane n) →
         s.lane n = some l → l.exitLock = some (.outbound h .gate) →
         v.duty = some slot → s.duty slot = some d →
         let t := s.putHold h x b
         t.visit h = some { v' with state := .parked, movement := none } ∧
         t.lane n = some (l.setExitLock none) ∧
         t.duty slot = some { d with state := .held .notReady }))) ∧
  (∀ (e : CodeEntry) (t : Station) (l : Lane) (i : Instr) (code : Nat) (on : Bool) (s : State),
     (i = .lanePostDefect ∧ code = 0x44 ∧ on = true) ∨
       (i = .lanePostOk ∧ code = 0x4B ∧ on = false) →
     s.Keyed e t .lanePost code → e.key = true → t.accumulator ≠ 0 → s.lane t.facility = some l →
     let s1 := s.numberTaken e
     (s.entry t.accumulator = none →
       exec i s = .next (s1.setReply e.address (.refuse .unknownVehicle))) ∧
     (∀ h, s.inYardOf t.accumulator = some h → h ∈ l.list → exec i s = .next
       ((settle s1 (s1.putHold h .defect on)).setReply e.address .accept)) ∧
     (∀ x, s.entry t.accumulator = some x → (∀ h, x.inYard = some h → h ∉ l.list) →
       exec i s = .next (s1.setReply e.address (.refuse .notExpected))))

/-- R56: ROUTE FLAGS replaces both flags; with SKIP-WASH set a wash result NONE or FAULTED becomes SKIPPED unless the record is at or on its way to a wash lane; a flag that is neither ON nor OFF is answered RANGE. R53: where the flags leave a CALLED record not READY the call is withdrawn at the same event: the record is PARKED with no movement, its lane's exit lock is free, its duty is HELD(NOT-READY), still bound, and the lane post's directive NONE. -/
def Obligations.RouteFlagsReplaceBothFlags : Prop :=
  ∀ (h : Nat) (f w : Bool) (v : Visit) (s : State), s.Takes inOpen → s.visit h = some v →
    let waits := match v.state with
      | .toWash | .atWash _ => false
      | _ => true
    let v' := { v with
      skipFuel := f, skipWash := w
      washResult := if w = true ∧ (v.washResult = .unset ∨ v.washResult = .faulted) ∧ waits = true
        then .skipped else v.washResult }
    (v.state ≠ .called ∨ v'.ready = true →
      exec (.routeFlags h f.toNat w.toNat) s = .next
        (let t := settle s { s with visits := s.visits.setIfInBounds h (some v') }
         t.takeRequest ⟨0x32, .ok, flagsAnswer t h⟩)) ∧
    (∀ n l slot d, v.state = .called → v'.ready = false → v.place = some (.lane n) →
      s.lane n = some l → l.exitLock = some (.outbound h .gate) → v.duty = some slot →
      s.duty slot = some d →
      exec (.routeFlags h f.toNat w.toNat) s = .next
        (let t := settle s { s with
           visits := s.visits.setIfInBounds h (some { v' with state := .parked, movement := none })
           lanes := s.lanes.setIfInBounds (n - 1) (some (l.setExitLock none))
           roster := { s.roster with
             duties := s.roster.duties.set slot { d with state := .held .notReady } }
           router := { s.router with scanPending := s.router.scanPending || l.kind == .stack }
           line := (s.postAt .lanePost n .blank).line }
         t.takeRequest ⟨0x32, .ok, flagsAnswer t h⟩)) ∧
    ∀ a b, 2 ≤ a ∨ 2 ≤ b → exec (.routeFlags h a b) s = .next (s.takeRequest ⟨0x32, .range, []⟩)

/-- R59: at a transit expiry the record becomes ASTRAY with no place, target, timer or movement, and what its target held for it is released by the owner and reported as capacity: an island's place, a wash lane's entry lock and place, a lane's inbound lock and reserved units; TO-GATE holds nothing. Where no expiry is due nothing happens, which is the model's choice (log 1). -/
def Obligations.TransitExpiryLosesTheRecord : Prop :=
  ∀ (h : Nat) (v : Visit) (s : State), s.boot = .running → s.visit h = some v →
    (v.timer ≠ some 0 → exec (.transitExpiry h) s = .next s) ∧
    (v.timer = some 0 →
      let lost : Visit :=
        { v with state := .astray, place := none, target := none, timer := none, movement := none }
      let visits := s.visits.setIfInBounds h (some lost)
      let capacity := { s.router with scanPending := true }
      (∀ n i, v.target = some (.island n) → s.island n = some i →
        exec (.transitExpiry h) s = .next (settle s { s with
          visits := visits, router := capacity
          islands := s.islands.setIfInBounds (n - 1) (some { i with reserved := i.reserved - 1 }) })) ∧
      (∀ n w, v.target = some (.wash n) → s.wash n = some w → w.entryLock = some h →
        exec (.transitExpiry h) s = .next (settle s { s with
          visits := visits, router := capacity
          washes := s.washes.setIfInBounds (n - 1)
            (some { w with entryLock := none, reserved := w.reserved - 1 }) })) ∧
      (∀ n l, v.target = some (.lane n) → s.lane n = some l → l.entryLock = some (.inbound h) →
        exec (.transitExpiry h) s = .next (settle s { s with
          visits := visits, router := capacity
          lanes := s.lanes.setIfInBounds (n - 1)
            (some { l with mouth := none, reserved := l.reserved - s.unitsOf h }) })) ∧
      (v.target = some .gate →
        exec (.transitExpiry h) s = .next (settle s { s with visits := visits })) ∧
      ∃ t, exec (.transitExpiry h) s = .next t ∧ t.visit h = some lost ∧
        (∀ n l, v.target = some (.lane n) → t.lane n = some l → l.entryLock ≠ some (.inbound h)) ∧
        t.register = s.register ∧ t.diesel = s.diesel ∧ t.gas = s.gas ∧ t.port = s.port)

/-- R61, R62, R160: LOCATE with a lane or with APRON is answered by the first of its tests that fails, and else puts the ASTRAY record PARKED at the access end of the lane, or at the end of the apron as the newest entry. A DEPARTING duty of the located record is then HELD in an ACTIVE roster and MISSED in another, and any other duty stands. The reason IN-SERVICE stands only within the event, until the re-test at its end (log 28). -/
def Obligations.LocatePlacesTheAstrayRecord : Prop :=
  ∀ (h : Nat) (s : State), s.Takes inOpen →
    let lane := fun (n : Nat) (r : Result) =>
      exec (.locateLane h n) s = .next (s.takeRequest ⟨0x33, r, []⟩)
    let apron := fun (r : Result) => exec (.locateApron h) s = .next (s.takeRequest ⟨0x33, r, []⟩)
    let dutyOf := fun (v : Visit) (s1 : State) =>
      (v.duty = none → s1.locatedDuty h = s1) ∧
      ∀ slot d, v.duty = some slot → s.duty slot = some d →
        (d.state ≠ .departing → s1.locatedDuty h = s1) ∧
        (d.state = .departing → s.roster.state = .active → s1.locatedDuty h =
          { s1 with roster := { s.roster with
            duties := s.roster.duties.set slot { d with state := .held .inService } } }) ∧
        (d.state = .departing → s.roster.state ≠ .active → s1.locatedDuty h = s1.miss slot)
    (∀ n, 127 < h ∨ n = 0 ∨ 20 < n → lane n .range) ∧
    (∀ n, h ≤ 127 → 1 ≤ n → n ≤ 20 → s.visit h = none ∨ s.lane n = none → lane n .notFound) ∧
    (127 < h → apron .range) ∧
    (h ≤ 127 → s.visit h = none → apron .notFound) ∧
    ∀ v, s.visit h = some v →
      (v.state ≠ .astray → apron .state ∧ ∀ n l, s.lane n = some l → lane n .state) ∧
      (v.state = .astray →
        (∀ n l, s.lane n = some l →
          (l.state = .shut → lane n .state) ∧
          (l.state ≠ .shut → l.exitLock ≠ none → lane n .locked) ∧
          (l.state ≠ .shut → l.exitLock = none →
            (l.capacity - l.used - l.reserved < s.unitsOf h → lane n .full) ∧
            (s.unitsOf h ≤ l.capacity - l.used - l.reserved →
              let s1 := { s with
                visits := s.visits.setIfInBounds h (some
                  { v with state := .parked, place := some (.lane n), target := none, timer := none })
                lanes := s.lanes.setIfInBounds (n - 1)
                  (some { l with list := h :: l.list, used := l.used + s.unitsOf h }) }
              dutyOf v s1 ∧
              exec (.locateLane h n) s = .next (let t := settle s (s1.locatedDuty h)
                t.takeRequest ⟨0x33, .ok, placeAnswer t h⟩)))) ∧
        (16 ≤ s.router.apron.length → apron .full) ∧
        (s.router.apron.length < 16 →
          let s1 := { s with
            visits := s.visits.setIfInBounds h (some
              { v with state := .apron, place := some .apron, target := none, timer := none })
            router := { s.router with
              apron := s.router.apron ++
                [(⟨h, v.nextStage, .apron, s.router.nextSequence⟩ : WaitEntry)]
              nextSequence := (s.router.nextSequence + 1) % 65536 } }
          dutyOf v s1 ∧
          exec (.locateApron h) s = .next (let t := settle s (s1.locatedDuty h)
            t.takeRequest ⟨0x33, .ok, placeAnswer t h⟩)))

/-- R63 to R66: RETIRE (but of a record whose turn is DISPENSING or CHECK, or that is WASHING), LOCATE with RETIRE of an ASTRAY record, and DEPART of a record TO-GATE or ASTRAY free the slot and the in-yard link; a DEPARTING duty becomes GONE and unbound. R64: what each state holds is released by its owner: a Wait List entry, a place on the way to an island, wash lane or lane, a place in an island's queue with its turn AT-PUMP, in a wash list with the exit target, in a lane with its movement; then the next turn or cycle of the facility left may start. R65: the duty is unbound and takes the state of the table. R150: a record that names a duty is the one the duty is bound to. R64, R113, R158: the directive becomes STOP where a turn ends or a posted start is withdrawn, NONE at the lane post of a CALLED record, and no other is posted by the release; that a wash head retired with no posted start leaves the directive standing is the model's reading (log 27). That RETIRE's answer sends the record's state as its byte alone, without its sub-position, is the model's choice (log 35). -/
def Obligations.RetirementFreesTheRecord : Prop :=
  ∀ (h : Nat) (v : Visit) (s : State), s.visit h = some v →
    let gone := fun (t : State) =>
      t.visit h = none ∧
      t.register = s.register.map (fun e => if e.fleet = v.fleet then { e with inYard := none } else e) ∧
      ∀ slot d, v.duty = some slot → s.duty slot = some d → d.state = .departing →
        d.bound = some h →
        ∃ d', t.duty slot = some d' ∧ d'.state = .gone ∧ d'.bound = none
    (s.Takes inOpen → v.retirable = true → ∃ t, exec (.retire h) s = .next t ∧ gone t ∧
      t.port.inHand = some ⟨0x34, .ok, bytes2 v.fleet ++ [byte v.state.code] ++ o1 v.duty⟩) ∧
    (s.Takes inOpen → v.retirable = false →
      exec (.retire h) s = .next (s.takeRequest ⟨0x34, .state, []⟩)) ∧
    (s.Takes inOpen → v.state = .astray → ∃ t, exec (.locateRetire h) s = .next t ∧ gone t ∧
      t.port.inHand = some ⟨0x33, .ok, bytes2 v.fleet⟩) ∧
    (s.Takes inOpen → v.state ≠ .astray →
      exec (.locateRetire h) s = .next (s.takeRequest ⟨0x33, .state, []⟩)) ∧
    (∀ e t x, s.Keyed e t .gateOut 0x58 → t.accumulator ≠ 0 → s.entry t.accumulator = some x →
      x.inYard = some h → t.accumulator = v.fleet →
      (v.state = .toGate ∨ v.state = .astray →
        ∃ u : State, exec .depart s = .next u ∧ gone u ∧
          (t.reply ≠ some .repeatCodes →
            (u.station e.address).map (·.reply) = some (some .accept))) ∧
      (v.state ≠ .toGate → v.state ≠ .astray →
        exec .depart s = .next
          ((s.numberTaken e).setReply e.address (.refuse .notCalled)))) ∧
    (s.Takes inOpen → v.retirable = true → exec (.retire h) s = .next
      ((settle s (s.endVisit h false)).takeRequest
        ⟨0x34, .ok, bytes2 v.fleet ++ [byte v.state.code] ++ o1 v.duty⟩)) ∧
    (∀ e t, s.Keyed e t .gateOut 0x58 → s.inYardOf t.accumulator = some h → t.accumulator ≠ 0 →
      v.state = .toGate ∨ v.state = .astray → exec .depart s = .next
        ((settle (s.numberTaken e) ((s.numberTaken e).endVisit h true)).setReply e.address .accept)) ∧
    ((∀ slot d, v.duty = some slot → s.duty slot = some d → d.bound = some h) →
      ∀ byDepart : Bool, ∃ u : State,
      s.endVisit h byDepart = (match v.place with
        | some (.island n) => u.startTurn n
        | some (.wash n) => u.startCycle n
        | _ => u) ∧
      u.visit h = none ∧ (∀ k, k ≠ h → u.visit k = s.visit k) ∧
      u.register = s.register.map (fun e => if e.fleet = v.fleet then { e with inYard := none } else e) ∧
      (let kept := u.lanes = s.lanes ∧ u.islands = s.islands ∧ u.washes = s.washes
       let leftList := u.router.exitHeld = s.router.exitHeld.filter (·.handle != h) ∧
         u.router.apron = s.router.apron.filter (·.handle != h)
       let sameList := u.router.exitHeld = s.router.exitHeld ∧ u.router.apron = s.router.apron
       let stock := u.diesel = s.diesel ∧ u.gas = s.gas
       let units := s.unitsOf h
       let released := fun g : Target =>
         (∀ m i, g = .island m → s.island m = some i →
           u.island m = some { i with reserved := i.reserved - 1 }) ∧
         (∀ m w, g = .wash m → s.wash m = some w → w.entryLock = some h →
           u.wash m = some { w with entryLock := none, reserved := w.reserved - 1 }) ∧
         (∀ m l, g = .lane m → v.place ≠ some (.lane m) → s.lane m = some l →
           l.entryLock = some (.inbound h) →
           u.lane m = some { l with mouth := none, reserved := l.reserved - units })
       let silent := u.line = s.line
       (v.state = .apron → kept ∧ leftList ∧ stock ∧ silent) ∧
       (∀ g, v.target = some g → v.state = .toIsland ∨ v.state = .toWash ∨ v.state = .toBerth →
         released g ∧ sameList ∧ stock ∧ silent ∧ (g ≠ .gate → (∀ m, g = .lane m → ∃ l, s.lane m = some l ∧
           l.entryLock = some (.inbound h)) → u.router.scanPending = true)) ∧
       (∀ n i sub, v.state = .atIsland sub → v.place = some (.island n) → s.island n = some i →
         let left := { i with queue := i.queue.filter (· != h) }
         leftList ∧ u.router.scanPending = true ∧ u.lanes = s.lanes ∧ u.washes = s.washes ∧
         (sub ≠ .atPump ∨ i.turn = none → u.island n = some left ∧ stock ∧ silent) ∧
         (∀ x, sub = .atPump → i.turn = some x →
           u.line = (s.postAt .island n .stop).line ∧
           u.tank i.fuel = { s.tank i.fuel with
             committed := (s.tank i.fuel).committed - x.limit } ∧
           u.island n = some { left with
             turn := none
             last := some {
               fleet := v.fleet, handle := h, ending := .retired, limit := x.limit,
               reported := none, settled := none, overrun := x.overrun,
               second := s.clock.second, result := none } })) ∧
       (∀ n w sub, v.state = .atWash sub → v.place = some (.wash n) → s.wash n = some w →
         let left := { w with list := w.list.filter (· != h) }
         leftList ∧ u.router.scanPending = true ∧ u.islands = s.islands ∧ stock ∧
         (w.list.head? ≠ some h → u.wash n = some left ∧ u.lanes = s.lanes ∧ silent) ∧
         (w.list.head? = some h →
           u.line = (if w.startPosted = true then (s.postAt .wash n .stop).line else s.line) ∧
           u.wash n = some { left with
             machineReady := w.machineReady || w.startPosted, startPosted := false
             drip := none, exitTarget := none } ∧
           (w.exitTarget = none → u.lanes = s.lanes) ∧
           ∀ m l, w.exitTarget = some m → s.lane m = some l → l.entryLock = some (.inbound h) →
             u.lane m = some { l with mouth := none, reserved := l.reserved - units })) ∧
       (∀ n l, v.state = .parked ∨ v.state = .called → v.place = some (.lane n) →
         s.lane n = some l →
         let left : Lane → Lane := fun l =>
           { l with list := l.list.filter (· != h), used := l.used - units }
         sameList ∧ stock ∧ u.router.scanPending = true ∧
         u.line = (if v.state = .called then (s.postAt .lanePost n .blank).line else s.line) ∧
         (v.movement = none → u.lane n = some (left l) ∧ u.islands = s.islands ∧
           u.washes = s.washes) ∧
         (∀ g, v.movement = some g → g ≠ .lane n → l.exitLock = some (.outbound h g) →
           u.lane n = some (left (l.setExitLock none)) ∧ released g)) ∧
       (v.state = .toGate ∨ v.state = .astray → kept ∧ sameList ∧ stock ∧ silent)) ∧
      ∀ slot d, v.duty = some slot → s.duty slot = some d → d.bound = some h →
        let state := match d.state with
          | .departing => DutyState.gone
          | .called => .held .uncovered
          | .bound | .held _ =>
            if byDepart = true then .gone
            else if s.roster.state = .active ∧ d.pullOut - s.times.callLead ≤ s.clock.second
              then .held .uncovered else .opened
          | x => x
        u.duty slot = some { d with bound := none, state := state })

/-- R83: RECALL takes a scan that is due first, and then answers the first of its tests that fails, changing nothing more: RANGE for a handle, a service or a facility number outside its range; NOT-FOUND for a free slot or a named facility that is not defined; STATE for a record that is not PARKED, not at position 0 of its lane, or of another fuel kind than a named island's, or whose lane is SHUT; LOCKED for an exit lock that is not free; FULL with no target. The target is the named facility where it passes R73 or R74, or for 0 the one these choose; a FUEL target needs something available. With all passed the target is claimed, the exit lock takes the OUTBOUND movement, the record carries it, and for FUEL the need is set afresh. -/
def Obligations.RecallSendsTheRecordBack : Prop :=
  ∀ (h service facility : Nat) (s : State), s.Takes inOpen →
    let s0 : State := if s.router.scanPending = true then s.scan else s
    let answered := fun (r : Result) => exec (.recall h service facility) s = .next
      ((settle s s0).takeRequest ⟨0x38, r, []⟩)
    let inRange := h ≤ 127 ∧ ((service = 0 ∧ facility ≤ 6) ∨ (service = 1 ∧ facility ≤ 3))
    let undefined := facility ≠ 0 ∧ ((service = 0 ∧ s0.island facility = none) ∨
      (service = 1 ∧ s0.wash facility = none))
    (¬ inRange → answered .range) ∧
    (inRange → s0.visit h = none ∨ undefined → answered .notFound) ∧
    ∀ v p, inRange → ¬ undefined → s0.visit h = some v → s0.profile h = some p →
      let wrongKind := service = 0 ∧ ∃ i, s0.island facility = some i ∧ i.fuel ≠ p.fuel
      let target := fun g : Target => match g with
        | .island m => service = 0 ∧ 0 < (s0.tank p.fuel).available p.priority ∧
            ((facility = 0 ∧ s0.fuelTarget p = some m) ∨
              (facility = m ∧ ∃ i, s0.island m = some i ∧ i.state = .opened ∧ i.fuel = p.fuel ∧
                i.queue.length + i.reserved < 4))
        | .wash m => service = 1 ∧
            ((facility = 0 ∧ s0.washTarget = some m) ∨
              (facility = m ∧ ∃ w, s0.wash m = some w ∧ w.state = .opened ∧ w.entryLock = none ∧
                w.list.length + w.reserved < 3))
        | _ => False
      (v.state ≠ .parked ∨ wrongKind → answered .state) ∧
      ∀ n l, v.state = .parked → v.place = some (.lane n) → s0.lane n = some l →
        (l.list.head? ≠ some h → answered .state) ∧
        (l.list.head? = some h → ¬ wrongKind →
          (l.state = .shut → answered .state) ∧
          (l.state ≠ .shut → l.exitLock ≠ none → answered .locked) ∧
          (l.state ≠ .shut → l.exitLock = none →
            ((∀ g, ¬ target g) → answered .full) ∧
            ∀ g, target g →
              let s1 := s0.claim h p.units g
              let fresh := match v.need with
                | some k => if v.progress < k then some (k - v.progress) else none
                | none => none
              let v1 : Visit := if service = 0
                then { v with movement := some g, need := fresh, progress := 0 }
                else { v with movement := some g }
              exec (.recall h service facility) s = .next
                (let t := settle s { s1 with
                  lanes := s1.lanes.setIfInBounds (n - 1)
                    (some (l.setExitLock (some (.outbound h g))))
                  visits := s1.visits.setIfInBounds h (some v1) }
                 t.takeRequest ⟨0x38, .ok, g.bytes⟩)))

/-! The translator -/

/-- R173: a function code on a station of its kind. A key-on code keyed without the key is refused KEY-NEEDED; then, outside OPEN, the reply is CLOSED and a number-consuming code sets the accumulator to 0; then a number-consuming code other than LEVEL with the accumulator at 0 is refused NO-NUMBER. The entry leaves the queue and no owner acts. -/
def Obligations.CodesAreTestedInOrder : Prop :=
  ∀ (i : Instr) (kind : StationKind) (b : Nat) (e : CodeEntry) (t : Station) (s : State),
    codeRow i = some (kind, b) → s.boot = .running → s.line.queue.head? = some e →
    s.station e.address = some t → t.kind = kind → e.code.toNat = b →
    (keyOnCode i = true → e.key = false →
      exec i s = .next (s.popCode.setReply e.address (.refuse .keyNeeded))) ∧
    ((keyOnCode i = true → e.key = true) → s.phase ≠ .opened →
      exec i s = .next ((if numberCode i then s.numberTaken e else s.popCode).setReply
        e.address .closed)) ∧
    ((keyOnCode i = true → e.key = true) → s.phase = .opened → numberCode i = true → i ≠ .level →
      t.accumulator = 0 → exec i s = .next (s.popCode.setReply e.address (.refuse .noNumber)))

/-- R172, R173 line 1, R93: a digit makes the accumulator (10 times it + d) modulo 10000; CLEAR sets it to 0 and drops the pending fields; at an island terminal both reload the idle timer of a turn AT-PUMP or DISPENSING. A byte that is in no row of the station's kind is refused, and an entry of an undefined address is removed. R170, R173 line 5, R174: setting a reply, posting a directive and taking a number change one station's entry; LEVEL with a number up to 8 keeps it as the pending level and any other is refused NOT-EXPECTED; GATE-DEFECT sets the pending defect flag. -/
def Obligations.KeyedEntriesEditTheStation : Prop :=
  (∀ (e : CodeEntry) (s : State), s.boot = .running → s.line.queue.head? = some e →
     let edit : Station → State := fun t => { s with line := { s.line with
       queue := s.line.queue.tail
       stations := s.line.stations.setIfInBounds (e.address - 1) (some t) } }
     (∀ t d, s.station e.address = some t → e.code.toNat = 0x30 + d → d ≤ 9 →
       let u := edit { t with accumulator := (t.accumulator * 10 + d) % 10000 }
       exec .digit s = .next (if t.kind = .island then State.reloadIdle u t.facility else u)) ∧
     (∀ t, s.station e.address = some t → e.code.toNat = 0x1B →
       let u := edit { t with accumulator := 0, pendingLevel := none, pendingDefect := false }
       exec .clear s = .next (if t.kind = .island then State.reloadIdle u t.facility else u)) ∧
     (∀ n i x, s.island n = some i → i.turn = some x →
       (x.state = .check → s.reloadIdle n = s) ∧
       (x.state ≠ .check → s.reloadIdle n = { s with
         islands := s.islands.setIfInBounds (n - 1)
           (some { i with turn := some { x with idle := some s.times.idleTime } }) })) ∧
     (∀ t, s.station e.address = some t → ¬ (0x30 ≤ e.code.toNat ∧ e.code.toNat ≤ 0x39) →
       e.code.toNat ≠ 0x1B → (∀ i, codeRow i ≠ some (t.kind, e.code.toNat)) →
       exec .undefinedCode s = .next (s.popCode.setReply e.address (.refuse .undefinedCode))) ∧
     (s.station e.address = none → exec .undefinedCode s = .next
       { s with line := { s.line with queue := s.line.queue.tail } })) ∧
  (∀ (a : Nat) (t : Station) (s : State), s.station a = some t →
     (∀ r, t.reply ≠ some .repeatCodes ∨ r = .repeatCodes →
       (s.setReply a r).station a = some { t with reply := some r }) ∧
     (∀ r, t.reply = some .repeatCodes → r ≠ .repeatCodes → s.setReply a r = s) ∧
     (∀ d, (s.post a d).station a = some { t with directive := d }) ∧
     (∀ r d b, (b ≠ a → (s.setReply a r).station b = s.station b ∧
         (s.post a d).station b = s.station b) ∧
       s.setReply a r = { s with line := (s.setReply a r).line } ∧
       s.post a d = { s with line := (s.post a d).line } ∧
       (s.setReply a r).line.queue = s.line.queue ∧ (s.post a d).line.queue = s.line.queue) ∧
     ∀ e, e.address = a →
       let edit : Station → State := fun t => { s with line := { s.line with
         queue := s.line.queue.tail
         stations := s.line.stations.setIfInBounds (a - 1) (some t) } }
       s.numberTaken e = edit { t with accumulator := 0 } ∧
       (s.Keyed e t .gateIn 0x4C →
         (t.accumulator ≤ 8 → exec .level s = .next
           ((edit { t with accumulator := 0, pendingLevel := some t.accumulator }).setReply a .accept)) ∧
         (8 < t.accumulator → exec .level s = .next
           ((s.numberTaken e).setReply a (.refuse .notExpected)))) ∧
       (s.Keyed e t .gateIn 0x44 → e.key = true → exec .gateDefect s = .next
         ((edit { t with pendingDefect := true }).setReply a .accept)))

/-- R47, R49, R50, R72: ARRIVE with a number is refused UNKNOWN-VEHICLE, BARRED, DUPLICATE or YARD-FULL in this order. A vehicle that passes, a due scan taken first, gets a record in the lowest free slot: in transit to its target with the target's place reserved and GO posted, or on the apron at the end of the Wait List, or it is refused WAIT with the apron full. R72: the wash result is SKIPPED with no wash lane defined, else NONE where the vehicle is due and NOT-DUE where not; the first stage is FUEL unless the need is 0, then WASH where the wash result is NONE, then BERTH; a FUEL stage skipped by R73 writes OWED and goes on to the next. -/
def Obligations.ArriveAdmitsTheVehicle : Prop :=
  ∀ (e : CodeEntry) (t : Station) (s : State), s.Keyed e t .gateIn 0x41 → t.accumulator ≠ 0 →
    let a := e.address
    let fleet := t.accumulator
    let s1 := s.numberTaken e
    (s.entry fleet = none → exec .arrive s = .next (s1.setReply a (.refuse .unknownVehicle))) ∧
    (∀ x, s.entry fleet = some x →
      (x.barred = true → exec .arrive s = .next (s1.setReply a (.refuse .barred))) ∧
      (x.barred = false → x.inYard ≠ none →
        exec .arrive s = .next (s1.setReply a (.refuse .duplicate))) ∧
      (x.barred = false → x.inYard = none → (∀ h, h < 128 → s.visit h ≠ none) →
        exec .arrive s = .next (s1.setReply a (.refuse .yardFull))) ∧
      ∀ h, x.barred = false → x.inYard = none → h < 128 → s.visit h = none →
        (∀ k, k < h → s.visit k ≠ none) →
        let s2 := s1.dueScan
        let p := s2.firstPlacement x t.pendingLevel
        let v : Visit := {
          fleet := fleet, state := .apron, place := some .apron, target := none, timer := none,
          movement := none, arrivalSecond := s.clock.second, arrivalDay := s.clock.day,
          need := t.pendingLevel.map fun l => (x.tankSize * (8 - l) + 7) / 8,
          taken := 0, progress := 0, fuelResult := p.fuelResult, washResult := p.washResult,
          skipFuel := false, skipWash := false,
          holds := ⟨t.pendingDefect, false, decide (p.fuelResult = .owed), false⟩, duty := none }
        let admitted : Visit → State := fun v => { s2 with
          visits := s2.visits.setIfInBounds h (some v)
          register := s2.register.map fun (y : Entry) =>
            if y.fleet = fleet then { y with inYard := some h } else y }
        (let q : Profile := ⟨x.fuel, x.length.units, 86400, false⟩
         let after := if p.washResult = .unset then Stage.wash else .berth
         ((∀ n, s2.wash n = none) → p.washResult = .skipped) ∧
         (∀ n w, s2.wash n = some w → p.washResult =
           if x.interval ≠ 0 ∧ x.interval ≤ x.age then .unset else .notDue) ∧
         (v.need = some 0 → p.fuelResult = .unset ∧ p.stage = after ∧ p.target = s2.targetFor q after) ∧
         (v.need ≠ some 0 →
           (s2.fuelTarget q ≠ none ∨ s2.fuelSkipped q = false → p.fuelResult = .unset ∧
             p.stage = .fuel ∧ p.target = (s2.fuelTarget q).map .island) ∧
           (s2.fuelTarget q = none → s2.fuelSkipped q = true → p.fuelResult = .owed ∧
             p.stage = after ∧ p.target = s2.targetFor q after))) ∧
        (∀ g, p.target = some g → exec .arrive s = .next
          ((settle s1 (((((admitted { v with
            state := g.transitState, place := none, target := some g,
            timer := some s.times.transitLimit }).claim h x.length.units g).dropPending a).post a
              g.directive))).setReply a .accept)) ∧
        (p.target = none → s2.router.apron.length < 16 → exec .arrive s = .next
          ((settle s1 (((({ admitted v with router := { s2.router with
            apron := s2.router.apron ++ [(⟨h, p.stage, .apron, s2.router.nextSequence⟩ : WaitEntry)]
            nextSequence := (s2.router.nextSequence + 1) % 65536 } } : State).dropPending a).post a
              (.go .apron)))).setReply a .accept)) ∧
        (p.target = none → 16 ≤ s2.router.apron.length →
          exec .arrive s = .next ((settle s1 s2).setReply a (.refuse .wait))))

/-! The Service Router -/

/-- R73, R74: a FUEL query answers the island of the kind that is OPEN with room and has the least load, none unless something is available; a WASH query the OPEN wash lane with a free entry lock, room and the least load; ties go to the lowest number. R73: without a target the fuel stage is skipped where no island of the kind is defined, or nothing is available with an island of the kind OPEN with room. R128, R129: the placement engine answers, among the OPEN lanes with a free entry lock and room, the one of least slack where one is admissible and not empty, else the empty one of least capacity, else the one to which the record adds the fewest inversions; ties go to the lowest number. -/
def Obligations.TargetQueriesTakeTheLeastLoad : Prop :=
  ∀ (s : State) (p : Profile) (n : Nat),
    (s.fuelTarget p = some n ↔
      0 < (s.tank p.fuel).available p.priority ∧
      ∃ i, s.island n = some i ∧ i.state = .opened ∧ i.fuel = p.fuel ∧
        i.queue.length + i.reserved < 4 ∧
        ∀ m j, s.island m = some j → j.state = .opened → j.fuel = p.fuel →
          j.queue.length + j.reserved < 4 →
          i.queue.length + i.reserved < j.queue.length + j.reserved ∨
          (i.queue.length + i.reserved = j.queue.length + j.reserved ∧ n ≤ m)) ∧
    (s.washTarget = some n ↔
      ∃ w, s.wash n = some w ∧ w.state = .opened ∧ w.entryLock = none ∧
        w.list.length + w.reserved < 3 ∧
        ∀ m x, s.wash m = some x → x.state = .opened → x.entryLock = none →
          x.list.length + x.reserved < 3 →
          w.list.length + w.reserved < x.list.length + x.reserved ∨
          (w.list.length + w.reserved = x.list.length + x.reserved ∧ n ≤ m)) ∧
    (∀ t : Tank, t.available true = t.stock - t.committed ∧
      t.available false = t.stock - t.committed - t.reserveLevel * t.capacity / 16) ∧
    (s.fuelSkipped p = true ↔
      (∀ m i, s.island m = some i → i.fuel ≠ p.fuel) ∨
      ((s.tank p.fuel).available p.priority = 0 ∧ ∃ m i, s.island m = some i ∧
        i.state = .opened ∧ i.fuel = p.fuel ∧ i.queue.length + i.reserved < 4)) ∧
    ∀ (units key : Nat) (except : Option Nat),
      let candidate := fun (m : Nat) (l : Lane) =>
        s.lane m = some l ∧ l.state = .opened ∧ l.entryLock = none ∧
          units ≤ l.capacity - l.used - l.reserved ∧ except ≠ some m
      let slack := fun (l : Lane) (k : Nat) => match l.kind with
        | .stack => ∃ h, l.list.head? = some h ∧ key ≤ s.key h ∧ k = s.key h - key
        | .through => ∃ h, l.list.getLast? = some h ∧ s.key h ≤ key ∧ k = key - s.key h
      let added := fun l : Lane => match l.kind with
        | .stack => (l.list.filter fun h => decide (s.key h < key)).length
        | .through => (l.list.filter fun h => decide (key < s.key h)).length
      let admissible := ∃ m l k, candidate m l ∧ slack l k
      let empty := ∃ m l, candidate m l ∧ l.list = []
      (s.placement units key except = some n ↔ ∃ l, candidate n l ∧
        ((∃ k, slack l k ∧ ∀ m g j, candidate m g → slack g j → k < j ∨ (k = j ∧ n ≤ m)) ∨
         (¬ admissible ∧ l.list = [] ∧ ∀ m g, candidate m g → g.list = [] →
           l.capacity < g.capacity ∨ (l.capacity = g.capacity ∧ n ≤ m)) ∨
         (¬ admissible ∧ ¬ empty ∧ ∀ m g, candidate m g →
           added l < added g ∨ (added l = added g ∧ n ≤ m)))) ∧
      (s.placement units key except = none ↔ ∀ m l, ¬ candidate m l)

/-! Islands and stock -/

/-- R90, R93: HERE with a number is accepted from a record TO-ISLAND whose target is this island, which joins the queue's end as QUEUED, and a turn may start; else it is refused NOT-EXPECTED. NOZZLE-OUT takes the turn AT-PUMP to DISPENSING and reloads its idle timer, reloads it in DISPENSING, is accepted without effect in CHECK, and is refused with no turn. -/
def Obligations.HereQueuesAndNozzleOutDispenses : Prop :=
  ∀ (n h : Nat) (e : CodeEntry) (t : Station) (i : Island) (v : Visit) (s : State),
    t.facility = n → s.island n = some i →
    (s.Keyed e t .island 0x48 → t.accumulator ≠ 0 →
      let s1 := s.numberTaken e
      (s.inYardOf t.accumulator = some h → s.visit h = some v → v.state = .toIsland →
        v.target = some (.island n) →
        let s2 := { s1 with
          visits := s1.visits.setIfInBounds h (some { v with
            state := .atIsland .queued, place := some (.island n), target := none, timer := none })
          islands := s1.islands.setIfInBounds (n - 1) (some
            { i with queue := i.queue ++ [h], reserved := i.reserved - 1 })
          router := { s1.router with scanPending := true } }
        exec .here s = .next ((settle s1 (State.startTurn s2 n)).setReply e.address .accept)) ∧
      ((∀ h v, s.inYardOf t.accumulator = some h → s.visit h = some v →
          ¬ (v.state = .toIsland ∧ v.target = some (.island n))) →
        exec .here s = .next (s1.setReply e.address (.refuse .notExpected)))) ∧
    (s.Keyed e t .island 0x4E →
      let s1 := s.popCode
      (i.turn = none → exec .nozzleOut s = .next (s1.setReply e.address (.refuse .notExpected))) ∧
      ∀ x, i.turn = some x →
        (x.state = .check → exec .nozzleOut s = .next (s1.setReply e.address .accept)) ∧
        (x.state = .dispensing → exec .nozzleOut s = .next
          ((s1.reloadIdle n).setReply e.address .accept)) ∧
        (x.state = .atPump → i.queue.head? = some h → s.visit h = some v →
          let s2 := { s1 with
            visits := s1.visits.setIfInBounds h (some { v with state := .atIsland .dispensing })
            islands := s1.islands.setIfInBounds (n - 1) (some { i with
              turn := some { x with state := .dispensing, idle := some s.times.idleTime } }) }
          exec .nozzleOut s = .next ((settle s1 s2).setReply e.address .accept)))

/-- R91, R92, R95: where the head of an island is QUEUED with no turn and the island is not in CHECK, its request is need less progress, or tank size less fuel taken; the limit is the lesser of it and what is available; a limit above 0 is committed, the turn stands AT-PUMP with its idle timer loaded, and AUTHORISE is posted. A limit of 0 reports OWED with no turn and STOP posted; a scan that is due is then taken first (R80); with a target it is claimed, the head leaves TO-WASH or TO-BERTH, which is capacity, GO is posted and the next head may start; with none the head stays DONE in the exit-held list. Where there is no such head nothing starts. An event starts at most five turns at an island, whose queue holds four; a start inside a scan takes the inner scan f (log 14). -/
def Obligations.TurnStartsWithItsLimit : Prop :=
  (∀ (f : State → State) (k n h : Nat) (i : Island) (v : Visit) (x : Entry) (s : State),
    s.island n = some i → i.turn = none → i.state ≠ .check → i.queue.head? = some h →
    s.visit h = some v → v.state = .atIsland .queued → s.entry v.fleet = some x →
    let request := match v.need with
      | some m => m - v.progress
      | none => x.tankSize - v.taken
    let limit := min request ((s.tank i.fuel).available (s.priority v))
    let t := s.tank i.fuel
    let v' := { v with fuelResult := .owed, holds := { v.holds with fuelOwed := true } }
    let last : Settlement := {
      fleet := v.fleet, handle := h, ending := .limitZero, limit := 0, reported := none,
      settled := none, overrun := false, second := s.clock.second, result := some .owed }
    let turn : Turn :=
      { state := .atPump, limit := limit, idle := some s.times.idleTime, overrun := false }
    let owed := ({ s with
      visits := s.visits.setIfInBounds h (some v')
      islands := s.islands.setIfInBounds (n - 1) (some { i with last := some last }) } : State).postAt
        .island n .stop
    let asked := if s.router.scanPending = true then f owed else owed
    (0 < limit → turnStarts f (k + 1) n s =
      ({ (s.setTank i.fuel { t with committed := t.committed + limit }) with
        visits := s.visits.setIfInBounds h (some { v with state := .atIsland .atPump })
        islands := s.islands.setIfInBounds (n - 1) (some { i with turn := some turn })
        } : State).postAt .island n (.authorise limit v.fleet)) ∧
    (limit = 0 → ∀ p j w, State.island asked n = some j → State.visit asked h = some w →
      State.profile asked h = some p → w.fuelResult ≠ .unset →
      (State.targetFor asked p w.stageAfterFuel = none →
        turnStarts f (k + 1) n s = State.headHeldAt asked n h w w.stageAfterFuel) ∧
      (∀ g, State.targetFor asked p w.stageAfterFuel = some g →
        turnStarts f (k + 1) n s = turnStarts f k n (State.headGoneTo asked n h p.units j w g)))) ∧
  ∀ (n : Nat) (i : Island) (s : State), s.island n = some i →
    (s.startTurn n = turnStarts State.scan 5 n s) ∧
    (i.turn ≠ none ∨ i.state = .check ∨ i.queue = [] ∨
        (∃ h v, i.queue.head? = some h ∧ s.visit h = some v ∧ v.state ≠ .atIsland .queued) →
      ∀ f k, turnStarts f k n s = s)

/-- R94, R98, R103: END, FULL and ISLAND CONFIRM settle the turn of the head with the quantity q: the lesser q' of q and the limit leaves the stock and joins taken and progress, the limit leaves the committed amount, the flags follow, the result is FULL, DONE or PART, and the settlement is kept; STOP is posted and the Router asked. R95: the Router takes a scan that is due first; with a target it is claimed, the head leaves TO-WASH or TO-BERTH, which is capacity, GO is posted and the next turn may start; with none the head stays DONE in the exit-held list. That an island in CHECK is OPEN before the Router is asked is the model's reading (log 16), and so is that ISLAND CONFIRM answers the last settlement as its event leaves it, perhaps the next head's LIMIT-ZERO (log 26). -/
def Obligations.SettlementTakesTheQuantity : Prop :=
  (∀ (n h q : Nat) (i : Island) (v : Visit) (x : Turn) (full : Bool) (s : State),
    s.island n = some i → i.queue.head? = some h → s.visit h = some v → i.turn = some x →
    let q' := min q x.limit
    let result := if full = true then FuelResult.full else
      match v.need with
      | none => .done
      | some k => if k ≤ v.progress + q' then .done else .part
    let tank := s.tank i.fuel
    let low := decide (tank.stock - q' ≤ tank.lowLevel * tank.capacity / 16)
    let reserve := decide (tank.stock - q' ≤ tank.reserveLevel * tank.capacity / 16)
    (∃ s2 : State, s.settleTurn n h v i x full q = (s2.postAt .island n .stop).afterTurn n h ∧
      s2.tank i.fuel = { tank with
        stock := tank.stock - q', committed := tank.committed - x.limit
        lowFlag := low, reserveFlag := reserve
        lowLatch := if low = true ∧ tank.lowFlag = false ∧ tank.lowLatch = none
          then some (tank.stock - q') else tank.lowLatch } ∧
      s2.visit h = some { v with
        taken := v.taken + q', progress := v.progress + q', fuelResult := result
        holds := v.holds.afterFuel result } ∧
      s2.island n = some { i with
        turn := none, state := if i.state = .check then .opened else i.state
        last := some {
          fleet := v.fleet, handle := h, ending := if full = true then .full else .ended,
          limit := x.limit, reported := some q, settled := some q',
          overrun := x.overrun || decide (x.limit < q), second := s.clock.second,
          result := some result } } ∧
      (s2.router.scanPending = true ↔ s.router.scanPending = true ∨ i.state = .check ∨
        (tank.reserveFlag = true ∧ reserve = false)) ∧
      s2 = { s with
        visits := s2.visits, islands := s2.islands, diesel := s2.diesel, gas := s2.gas,
        router := { s.router with scanPending := s2.router.scanPending } }) ∧
    (∀ e t, t.facility = n → t.accumulator ≠ 0 →
      let s1 := s.numberTaken e
      (s.Keyed e t .island 0x45 → exec .endCode s = .next
        ((settle s1 (s1.settleTurn n h v i x false t.accumulator)).setReply e.address .accept)) ∧
      (s.Keyed e t .island 0x46 → exec .fullCode s = .next
        ((settle s1 (s1.settleTurn n h v i x true t.accumulator)).setReply e.address .accept))) ∧
    (s.Takes inOpen →
      (i.state = .check → q ≤ 9999 → exec (.islandConfirm n full.toNat q) s = .next
        (let u := settle s (s.settleTurn n h v i x full q)
         u.takeRequest ⟨0x42, .ok, settlementBytes (u.lastSettlement n)⟩)) ∧
      (i.state ≠ .check → q ≤ 9999 → exec (.islandConfirm n full.toNat q) s =
        .next (s.takeRequest ⟨0x42, .state, []⟩)) ∧
      ∀ ending, 2 ≤ ending ∨ 9999 < q → exec (.islandConfirm n ending q) s =
        .next (s.takeRequest ⟨0x42, .range, []⟩))) ∧
  ∀ (u : State) (n h : Nat) (j : Island) (w : Visit) (p : Profile),
    let asked := if u.router.scanPending = true then u.scan else u
    State.island asked n = some j → State.visit asked h = some w → State.profile asked h = some p →
    w.fuelResult ≠ .unset →
    (State.targetFor asked p w.stageAfterFuel = none →
      u.afterTurn n h = State.headHeldAt asked n h w w.stageAfterFuel) ∧
    (∀ g, State.targetFor asked p w.stageAfterFuel = some g →
      u.afterTurn n h = (State.headGoneTo asked n h p.units j w g).startTurn n)

/-- R96, R97, R98: VOID with the key, ISLAND CONFIRM with VOID, and an idle expiry AT-PUMP end the turn without a quantity: the limit leaves the committed amount, the stock stands, the result is OWED from AT-PUMP and UNCONFIRMED otherwise. R95: STOP is posted and the Router asked, as after a settlement: a due scan first, then the target claimed, the head gone and the next turn, or the head DONE and exit-held. An idle expiry in DISPENSING takes turn, island and head to CHECK. R16: an idle expiry reads the yard second as the second event made it, also after a TRIM CLOCK; that the Router's part of it reads the same is the model's choice (log 37). That an island in CHECK is OPEN before the Router is asked is the model's reading (log 16), and so is that ISLAND CONFIRM answers the last settlement as its event leaves it (log 26). Where no idle expiry is due nothing happens, which is the model's choice (log 1). -/
def Obligations.VoidAndIdleExpiryEndTheTurn : Prop :=
  (∀ (n h : Nat) (i : Island) (v : Visit) (x : Turn) (s : State),
    s.island n = some i → i.queue.head? = some h → s.visit h = some v → i.turn = some x →
    let result := if x.state = .atPump then FuelResult.owed else .unconfirmed
    let tank := s.tank i.fuel
    (∃ s2 : State, s.endUnsettled n h v i x = (s2.postAt .island n .stop).afterTurn n h ∧
      s2.tank i.fuel = { tank with committed := tank.committed - x.limit } ∧
      s2.visit h = some { v with fuelResult := result, holds := v.holds.afterFuel result } ∧
      s2.island n = some { i with
        turn := none, state := if i.state = .check then .opened else i.state
        last := some {
          fleet := v.fleet, handle := h,
          ending := if x.state = .atPump then .abandoned else .void,
          limit := x.limit, reported := none, settled := none, overrun := x.overrun,
          second := s.clock.second, result := some result } } ∧
      (s2.router.scanPending = true ↔ s.router.scanPending = true ∨ i.state = .check) ∧
      s2 = { s with
        visits := s2.visits, islands := s2.islands, diesel := s2.diesel, gas := s2.gas,
        router := { s.router with scanPending := s2.router.scanPending } }) ∧
    (∀ e t, t.facility = n → e.key = true → s.Keyed e t .island 0x56 →
      exec .voidCode s = .next
        ((settle s.popCode (s.popCode.endUnsettled n h v i x)).setReply e.address .accept)) ∧
    (s.Takes inOpen →
      (i.state = .check → exec (.islandConfirmVoid n) s = .next
        (let u := settle s (s.endUnsettled n h v i x)
         u.takeRequest ⟨0x42, .ok, settlementBytes (u.lastSettlement n)⟩)) ∧
      (i.state ≠ .check → exec (.islandConfirmVoid n) s =
        .next (s.takeRequest ⟨0x42, .state, []⟩))) ∧
    (s.boot = .running →
      (x.idle ≠ some 0 → exec (.idleExpiry n) s = .next s) ∧
      (x.idle = some 0 → x.state = .atPump →
        let made := { s with clock := { s.clock with second := s.clock.eventSecond } }
        exec (.idleExpiry n) s = .next
          (settle s { State.endUnsettled made n h v i x with clock := s.clock })) ∧
      (x.idle = some 0 → x.state ≠ .atPump → exec (.idleExpiry n) s = .next (settle s { s with
        visits := s.visits.setIfInBounds h (some { v with state := .atIsland .check })
        islands := s.islands.setIfInBounds (n - 1) (some { i with
          state := .check, turn := some { x with state := .check, idle := none } }) })))) ∧
  ∀ (u : State) (n h : Nat) (j : Island) (w : Visit) (p : Profile),
    let asked := if u.router.scanPending = true then u.scan else u
    State.island asked n = some j → State.visit asked h = some w → State.profile asked h = some p →
    w.fuelResult ≠ .unset →
    (State.targetFor asked p w.stageAfterFuel = none →
      u.afterTurn n h = State.headHeldAt asked n h w w.stageAfterFuel) ∧
    (∀ g, State.targetFor asked p w.stageAfterFuel = some g →
      u.afterTurn n h = (State.headGoneTo asked n h p.units j w g).startTurn n)

/-- R88, R109, R139: ISLAND OPEN and CLOSE, WASH OPEN and CLOSE and LANE STATE answer RANGE or NOT-FOUND, STATE for an island in CHECK and a wash lane in FAULT, and else set the state; a change to OPEN is reported as capacity. -/
def Obligations.FacilityStatesAreSet : Prop :=
  ∀ (n : Nat) (s : State), s.Takes inOpen →
    let scanDue := { s.router with scanPending := true }
    (¬ (1 ≤ n ∧ n ≤ 6) →
      exec (.islandOpen n) s = .next (s.takeRequest ⟨0x40, .range, []⟩) ∧
      exec (.islandClose n) s = .next (s.takeRequest ⟨0x41, .range, []⟩)) ∧
    (1 ≤ n → n ≤ 6 → s.island n = none →
      exec (.islandOpen n) s = .next (s.takeRequest ⟨0x40, .notFound, []⟩) ∧
      exec (.islandClose n) s = .next (s.takeRequest ⟨0x41, .notFound, []⟩)) ∧
    (∀ i, s.island n = some i →
      let put := fun x => s.islands.setIfInBounds (n - 1) (some { i with state := x })
      (i.state = .check →
        exec (.islandOpen n) s = .next (s.takeRequest ⟨0x40, .state, []⟩) ∧
        exec (.islandClose n) s = .next (s.takeRequest ⟨0x41, .state, []⟩)) ∧
      (i.state = .opened →
        exec (.islandOpen n) s = .next (s.takeRequest ⟨0x40, .ok, []⟩) ∧
        exec (.islandClose n) s = .next
          (({ s with islands := put .closed } : State).takeRequest ⟨0x41, .ok, []⟩)) ∧
      (i.state = .closed →
        exec (.islandClose n) s = .next (s.takeRequest ⟨0x41, .ok, []⟩) ∧
        exec (.islandOpen n) s = .next
          (({ s with islands := put .opened, router := scanDue } : State).takeRequest
            ⟨0x40, .ok, []⟩))) ∧
    (¬ (1 ≤ n ∧ n ≤ 3) →
      exec (.washOpen n) s = .next (s.takeRequest ⟨0x48, .range, []⟩) ∧
      exec (.washClose n) s = .next (s.takeRequest ⟨0x49, .range, []⟩)) ∧
    (1 ≤ n → n ≤ 3 → s.wash n = none →
      exec (.washOpen n) s = .next (s.takeRequest ⟨0x48, .notFound, []⟩) ∧
      exec (.washClose n) s = .next (s.takeRequest ⟨0x49, .notFound, []⟩)) ∧
    (∀ w, s.wash n = some w →
      let put := fun x => s.washes.setIfInBounds (n - 1) (some { w with state := x })
      (w.state = .fault →
        exec (.washOpen n) s = .next (s.takeRequest ⟨0x48, .state, []⟩) ∧
        exec (.washClose n) s = .next (s.takeRequest ⟨0x49, .state, []⟩)) ∧
      (w.state = .opened →
        exec (.washOpen n) s = .next (s.takeRequest ⟨0x48, .ok, []⟩) ∧
        exec (.washClose n) s = .next
          (({ s with washes := put .closed } : State).takeRequest ⟨0x49, .ok, []⟩)) ∧
      (w.state = .closed →
        exec (.washClose n) s = .next (s.takeRequest ⟨0x49, .ok, []⟩) ∧
        exec (.washOpen n) s = .next
          (({ s with washes := put .opened, router := scanDue } : State).takeRequest
            ⟨0x48, .ok, []⟩))) ∧
    (∀ c, ¬ (1 ≤ n ∧ n ≤ 20) ∨ 3 ≤ c →
      exec (.laneState n c) s = .next (s.takeRequest ⟨0x50, .range, []⟩)) ∧
    (∀ x : LaneState, 1 ≤ n → n ≤ 20 → s.lane n = none →
      exec (.laneState n x.code) s = .next (s.takeRequest ⟨0x50, .notFound, []⟩)) ∧
    ∀ (l : Lane) (x : LaneState), s.lane n = some l →
      (l.state = x →
        exec (.laneState n x.code) s = .next (s.takeRequest ⟨0x50, .ok, [byte x.code]⟩)) ∧
      (l.state ≠ x → exec (.laneState n x.code) s = .next
        ((settle s { s with
          lanes := s.lanes.setIfInBounds (n - 1) (some { l with state := x })
          router := if x = .opened then scanDue else s.router }).takeRequest
            ⟨0x50, .ok, [byte x.code]⟩))

/-- R4, R103, R104, R105: TANK DELIVERY adds what fits to the stock, TANK SET replaces the stock between the committed amount and the capacity, TANK replaces capacity and levels; each compares the flags afresh, latches STOCK-LOW as the low flag becomes set, and reports capacity as the reserve flag clears. -/
def Obligations.StockRequestsCompareTheFlags : Prop :=
  ∀ (k : FuelKind) (q : Nat) (s : State),
    let old := s.tank k
    let compared : Tank → State := fun t =>
      let low := decide (t.stock ≤ t.lowLevel * t.capacity / 16)
      let reserve := decide (t.stock ≤ t.reserveLevel * t.capacity / 16)
      { (s.setTank k { t with
          lowFlag := low, reserveFlag := reserve
          lowLatch := if low = true ∧ old.lowFlag = false ∧ old.lowLatch = none then some t.stock
            else old.lowLatch }) with
        router := if old.reserveFlag = true ∧ reserve = false
          then { s.router with scanPending := true } else s.router }
    let flags := fun u : State =>
      [if (u.tank k).lowFlag then (1 : Byte) else 0, if (u.tank k).reserveFlag then 1 else 0]
    (s.Takes inBoth →
      (1 ≤ q → q ≤ 65535 →
        let accepted := min q (old.capacity - old.stock)
        let u := compared { old with stock := old.stock + accepted }
        exec (.tankDelivery k.code q) s = .next (u.takeRequest ⟨0x44, .ok,
          bytes2 accepted ++ bytes2 (q - accepted) ++ bytes2 (old.stock + accepted) ++ flags u⟩)) ∧
      (∀ f, 2 ≤ f ∨ q = 0 ∨ 65535 < q →
        exec (.tankDelivery f q) s = .next (s.takeRequest ⟨0x44, .range, []⟩)) ∧
      (old.committed ≤ q → q ≤ old.capacity →
        let u := compared { old with stock := q }
        exec (.tankSet k.code q) s = .next (u.takeRequest ⟨0x45, .ok,
          bytes2 q ++ bytes2 old.committed ++ flags u⟩)) ∧
      (q < old.committed ∨ old.capacity < q →
        exec (.tankSet k.code q) s = .next (s.takeRequest ⟨0x45, .state, []⟩)) ∧
      (∀ f, 2 ≤ f → exec (.tankSet f q) s = .next (s.takeRequest ⟨0x45, .range, []⟩))) ∧
    (s.Takes inSetup → ∀ c l r,
      let inRange := 1 ≤ c ∧ c ≤ 65535 ∧ 1 ≤ r ∧ r < l ∧ l ≤ 14
      (inRange → old.stock ≤ c → exec (.tank k.code c l r) s = .next
        ((compared { old with capacity := c, lowLevel := l, reserveLevel := r }).takeRequest
          ⟨0x13, .ok, []⟩)) ∧
      (inRange → c < old.stock →
        exec (.tank k.code c l r) s = .next (s.takeRequest ⟨0x13, .state, []⟩)) ∧
      (∀ f, 2 ≤ f ∨ ¬ inRange →
        exec (.tank f c l r) s = .next (s.takeRequest ⟨0x13, .range, []⟩)))

/-! Wash lanes -/

/-- R112, R113, R114: READY makes the machine ready; a cycle starts where the head is QUEUED, no start is posted, the machine is ready and the lane is not in FAULT: the start is posted with the program of the vehicle's entry and the machine is no longer ready. CYCLE-ON of a posted start makes the head WASHING and the directive NONE, and is refused NOT-EXPECTED with no start posted. -/
def Obligations.ReadyStartsTheCycle : Prop :=
  ∀ (n : Nat) (e : CodeEntry) (t : Station) (w : WashLane) (s : State),
    t.facility = n → s.wash n = some w →
    (s.Keyed e t .wash 0x52 →
      let s1 := s.popCode
      let s2 := { s1 with washes := s1.washes.setIfInBounds (n - 1) (some { w with machineReady := true }) }
      exec .ready s = .next ((settle s1 (State.startCycle s2 n)).setReply e.address .accept)) ∧
    (∀ h v x, w.list.head? = some h → s.visit h = some v → s.entry v.fleet = some x →
      v.state = .atWash .queued → w.startPosted = false → w.machineReady = true → w.state ≠ .fault →
      s.startCycle n = ({ s with
        washes := s.washes.setIfInBounds (n - 1)
          (some { w with startPosted := true, machineReady := false }) } : State).postAt .wash n
            (.washStart x.program)) ∧
    ((∀ h v, w.list.head? = some h → s.visit h = some v → v.state ≠ .atWash .queued) ∨
      w.startPosted = true ∨ w.machineReady = false ∨ w.state = .fault → s.startCycle n = s) ∧
    (s.Keyed e t .wash 0x57 →
      let s1 := s.popCode
      (∀ h v, w.list.head? = some h → s.visit h = some v → w.startPosted = true →
        let s2 := { s1 with
          visits := s1.visits.setIfInBounds h (some { v with state := .atWash .washing })
          washes := s1.washes.setIfInBounds (n - 1) (some { w with startPosted := false }) }
        exec .cycleOn s = .next ((settle s1 (State.postAt s2 .wash n .blank)).setReply e.address
          .accept)) ∧
      (w.startPosted = false ∨ w.list = [] →
        exec .cycleOn s = .next (s1.setReply e.address (.refuse .notExpected))))

/-- R115, R116, R38: CYCLE-DONE of a WASHING head makes it DRIPPING with the drip timer loaded, and a drip time of 0 expires at once; a berth is asked for. At a drip expiry the head is DONE with wash result FULL and its vehicle's wash age 0. R80: the asking takes a scan that is due first. The berth is then claimed as the exit target with GO posted, or the head joins the exit-held list with STOP. Where no drip expiry is due nothing happens, which is the model's choice (log 1). -/
def Obligations.CycleDoneDripsAndAsksForABerth : Prop :=
  ∀ (n h : Nat) (w : WashLane) (v : Visit) (s : State),
    s.wash n = some w → w.list.head? = some h → s.visit h = some v →
    let dripped : State → State := fun s => { s with
      visits := s.visits.setIfInBounds h
        (some { v with state := .atWash .done, washResult := .full })
      washes := s.washes.setIfInBounds (n - 1) (some { w with drip := none })
      register := s.register.map fun (x : Entry) =>
        if x.fleet = v.fleet then { x with age := 0 } else x }
    (∀ e t, s.Keyed e t .wash 0x44 → t.facility = n →
      let s1 := s.popCode
      (v.state = .atWash .washing → 0 < s.times.dripTime →
        let s2 := { s1 with
          visits := s1.visits.setIfInBounds h (some { v with state := .atWash .dripping })
          washes := s1.washes.setIfInBounds (n - 1)
            (some { w with drip := some s.times.dripTime }) }
        exec .cycleDone s = .next ((settle s1 (State.askBerth s2 n h)).setReply e.address
          .accept)) ∧
      (v.state = .atWash .washing → s.times.dripTime = 0 →
        exec .cycleDone s = .next ((settle s1 ((dripped s1).askBerth n h)).setReply e.address
          .accept)) ∧
      (v.state ≠ .atWash .washing →
        exec .cycleDone s = .next (s1.setReply e.address (.refuse .notExpected)))) ∧
    (s.boot = .running →
      (w.drip = some 0 → exec (.dripExpiry n) s = .next (settle s (dripped s))) ∧
      (w.drip ≠ some 0 → exec (.dripExpiry n) s = .next s)) ∧
    (let asked : State := if s.router.scanPending = true then s.scan else s
     ∀ p x, asked.profile h = some p → asked.wash n = some x →
      (∀ m l, asked.placement p.units p.key none = some m → asked.lane m = some l →
        s.askBerth n h = ({ asked with
          lanes := asked.lanes.setIfInBounds (m - 1)
            (some { l with mouth := some (.inbound h), reserved := l.reserved + p.units })
          washes := asked.washes.setIfInBounds (n - 1) (some { x with exitTarget := some m })
          } : State).postAt .wash n (.go (.lane m))) ∧
      (asked.placement p.units p.key none = none →
        s.askBerth n h = ({ asked with router := { asked.router with
          exitHeld := asked.router.exitHeld ++
            [(⟨h, .berth, .wash n, asked.router.nextSequence⟩ : WaitEntry)]
          nextSequence := (asked.router.nextSequence + 1) % 65536 } } : State).postAt .wash n .stop))

/-- R118, R119: FAULT puts the lane in FAULT with no ready machine and no start; a WASHING head is HALTED with wash result FAULTED, and STOP is posted where a cycle ran or was posted. FAULT-CLEAR with 1 or 2 and WASH RESET recover a lane in FAULT: a HALTED head is QUEUED with no wash result, or DONE with a berth asked for; the lane is OPEN, which is capacity, and a cycle may start. WASH RESET is answered RANGE, NOT-FOUND or STATE otherwise. That the HALTED head is treated, and its berth asked for, before the lane is OPEN is the model's reading (log 16). -/
def Obligations.FaultHaltsAndRecoveryReopens : Prop :=
  ∀ (n : Nat) (e : CodeEntry) (t : Station) (w : WashLane) (s : State), s.wash n = some w →
    let put : State → WashLane → State := fun s w =>
      { s with washes := s.washes.setIfInBounds (n - 1) (some w) }
    let reopened : State → State := fun u =>
      State.startCycle { (u.modWash n fun w => { w with state := .opened }) with
        router := { u.router with scanPending := true } } n
    (t.facility = n → s.Keyed e t .wash 0x21 →
      let s1 := s.popCode
      let down := put s1 { w with state := .fault, machineReady := false, startPosted := false }
      (w.state = .fault → exec .fault s = .next
        ((settle s1 (put s1 { w with machineReady := false })).setReply e.address .accept)) ∧
      (∀ h v, w.state ≠ .fault → w.list.head? = some h → s.visit h = some v →
        (v.state = .atWash .washing →
          let v' := { v with state := .atWash .halted, washResult := .faulted }
          exec .fault s = .next
            ((settle s1 (({ down with visits := s.visits.setIfInBounds h (some v') } : State).postAt
              .wash n .stop)).setReply e.address .accept)) ∧
        (v.state ≠ .atWash .washing → w.startPosted = true → exec .fault s = .next
          ((settle s1 (down.postAt .wash n .stop)).setReply e.address .accept)) ∧
        (v.state ≠ .atWash .washing → w.startPosted = false → exec .fault s = .next
          ((settle s1 down).setReply e.address .accept))) ∧
      (w.state ≠ .fault → w.list = [] → exec .fault s = .next
        ((settle s1 down).setReply e.address .accept))) ∧
    (t.facility = n → s.Keyed e t .wash 0x5A → e.key = true → t.accumulator ≠ 0 →
      let s1 := s.numberTaken e
      (w.state = .fault → t.accumulator = 1 → exec .faultClear s = .next
        ((settle s1 (s1.recover n false)).setReply e.address .accept)) ∧
      (w.state = .fault → t.accumulator = 2 → exec .faultClear s = .next
        ((settle s1 (s1.recover n true)).setReply e.address .accept)) ∧
      (w.state ≠ .fault ∨ 2 < t.accumulator → exec .faultClear s = .next
        (s1.setReply e.address (.refuse .notExpected)))) ∧
    (s.Takes inOpen →
      (w.state = .fault →
        exec (.washResetRestart n) s = .next (let u := settle s (s.recover n false)
          u.takeRequest ⟨0x4A, .ok, recoveryData u n⟩) ∧
        exec (.washResetRelease n) s = .next (let u := settle s (s.recover n true)
          u.takeRequest ⟨0x4A, .ok, recoveryData u n⟩)) ∧
      (w.state ≠ .fault →
        exec (.washResetRestart n) s = .next (s.takeRequest ⟨0x4A, .state, []⟩) ∧
        exec (.washResetRelease n) s = .next (s.takeRequest ⟨0x4A, .state, []⟩)) ∧
      ∀ k, (¬ (1 ≤ k ∧ k ≤ 3) →
          exec (.washResetRestart k) s = .next (s.takeRequest ⟨0x4A, .range, []⟩) ∧
          exec (.washResetRelease k) s = .next (s.takeRequest ⟨0x4A, .range, []⟩)) ∧
        (1 ≤ k → k ≤ 3 → s.wash k = none →
          exec (.washResetRestart k) s = .next (s.takeRequest ⟨0x4A, .notFound, []⟩) ∧
          exec (.washResetRelease k) s = .next (s.takeRequest ⟨0x4A, .notFound, []⟩))) ∧
    (∀ h v, w.list.head? = some h → s.visit h = some v →
      (v.state = .atWash .halted →
        let queued := { v with state := .atWash .queued, washResult := .unset }
        let done := { v with state := .atWash .done }
        s.recover n false = reopened { s with visits := s.visits.setIfInBounds h (some queued) } ∧
        s.recover n true = reopened
          (({ s with visits := s.visits.setIfInBounds h (some done) } : State).askBerth n h)) ∧
      (v.state ≠ .atWash .halted → ∀ b, s.recover n b = reopened s)) ∧
    (w.list = [] → ∀ b, s.recover n b = reopened s)

/-- R111, R117: a passage on an enabled entry line, or ENTERED with the line disabled, brings the record the entry lock names, TO-WASH to this lane, to the list's end as QUEUED; a passage on an enabled exit line, or EXITED with the line disabled, takes the DRIPPING or DONE head out, TO-BERTH to its exit target or ASTRAY without one, SHORT where it dripped. Both are capacity, and a cycle may start. A passage that brings neither about latches its line. -/
def Obligations.WashPassagesMoveTheRecords : Prop :=
  ∀ (n h line : Nat) (b : Beam) (e : CodeEntry) (t : Station) (w : WashLane) (v : Visit)
    (s : State),
    s.wash n = some w → s.visit h = some v → s.boot = .running → s.phase = .opened →
    s.beam line = some b → b.enabled = true → t.facility = n →
    let latched := { s with beams := s.beams.setIfInBounds line { b with stray := true } }
    let entered : State → State := fun s => State.startCycle { s with
      visits := s.visits.setIfInBounds h (some { v with
        state := .atWash .queued, place := some (.wash n), target := none, timer := none })
      washes := s.washes.setIfInBounds (n - 1) (some
        { w with list := w.list ++ [h], entryLock := none, reserved := w.reserved - 1 })
      router := { s.router with scanPending := true } } n
    let v1 : Visit :=
      { v with washResult := if v.state = .atWash .dripping then .short else v.washResult }
    let exited : State → State := fun s => State.startCycle (State.postAt { s with
      visits := s.visits.setIfInBounds h (some (match w.exitTarget with
        | some m => { v1 with state := .toBerth, place := none, target := some (.lane m),
                              timer := some s.times.transitLimit, movement := none }
        | none => { v1 with state := .astray, place := none, target := none, timer := none,
                            movement := none }))
      washes := s.washes.setIfInBounds (n - 1) (some
        { w with list := w.list.filter (· != h), drip := none, exitTarget := none })
      router := { (match w.exitTarget with
        | some _ => s.router
        | none => { s.router with
            exitHeld := s.router.exitHeld.filter (·.handle != h)
            apron := s.router.apron.filter (·.handle != h) }) with scanPending := true }
      } .wash n .blank) n
    (w.entryLock = some h → v.state = .toWash → v.target = some (.wash n) →
      (b.role = .washEntry n → exec (.washEntryPassage line) s = .next (settle s (entered s))) ∧
      (s.Keyed e t .wash 0x49 → s.lineEnabled (.washEntry n) = false → exec .entered s = .next
        ((settle s.popCode (entered s.popCode)).setReply e.address .accept))) ∧
    (w.entryLock = none ∨ (w.entryLock = some h ∧
        (v.state ≠ .toWash ∨ v.target ≠ some (.wash n))) →
      (b.role = .washEntry n → exec (.washEntryPassage line) s = .next latched) ∧
      (s.Keyed e t .wash 0x49 → exec .entered s = .next
        (s.popCode.setReply e.address (.refuse .notExpected)))) ∧
    (w.list.head? = some h → v.state = .atWash .dripping ∨ v.state = .atWash .done →
      (b.role = .washExit n → exec (.washExitPassage line) s = .next (settle s (exited s))) ∧
      (s.Keyed e t .wash 0x4F → s.lineEnabled (.washExit n) = false → exec .exited s = .next
        ((settle s.popCode (exited s.popCode)).setReply e.address .accept))) ∧
    (w.list = [] ∨ (w.list.head? = some h ∧
        v.state ≠ .atWash .dripping ∧ v.state ≠ .atWash .done) →
      (b.role = .washExit n → exec (.washExitPassage line) s = .next latched) ∧
      (s.Keyed e t .wash 0x4F → exec .exited s = .next
        (s.popCode.setReply e.address (.refuse .notExpected)))) ∧
    (s.Keyed e t .wash 0x49 → s.lineEnabled (.washEntry n) = true → exec .entered s = .next
      (s.popCode.setReply e.address (.refuse .notExpected))) ∧
    (s.Keyed e t .wash 0x4F → s.lineEnabled (.washExit n) = true → exec .exited s = .next
      (s.popCode.setReply e.address (.refuse .notExpected)))

/-! Berth lanes -/

/-- R131, R132, R135, R158: an arrival puts the record the entry lock names INBOUND, TO-BERTH to this lane, at a STACK lane's front or a THROUGH lane's back, PARKED, with its units used and the lock free; a departure takes the record the exit lock names OUTBOUND into transit to its destination, its units and the lock freed, and a DEPARTING duty for the gate. Both are capacity. They come by the lane's passages and, with the line disabled, by IN and OUT with the number of that vehicle. IN and OUT are refused NOT-EXPECTED with the line enabled, else UNKNOWN-VEHICLE with the number of no vehicle, else NOT-EXPECTED where the lock does not name the record of that vehicle in that direction or, for IN, the record is not TO-BERTH to this lane. -/
def Obligations.LanePassagesMoveTheRecords : Prop :=
  (∀ (n h line : Nat) (b : Beam) (e : CodeEntry) (t : Station) (x : Entry) (l : Lane) (v : Visit)
    (s : State),
    s.lane n = some l → s.visit h = some v → s.boot = .running → s.phase = .opened →
    s.beam line = some b → b.enabled = true → t.facility = n → t.accumulator ≠ 0 →
    s.entry t.accumulator = some x → x.inYard = some h →
    let arrived : State → State := fun s => { s with
      lanes := s.lanes.setIfInBounds (n - 1) (some { l with
        mouth := none, used := l.used + s.unitsOf h, reserved := l.reserved - s.unitsOf h
        list := match l.kind with
          | .stack => h :: l.list
          | .through => l.list ++ [h] })
      visits := s.visits.setIfInBounds h (some { v with
        state := .parked, place := some (.lane n), target := none, timer := none })
      router := { s.router with scanPending := true } }
    let departed : Target → State → State := fun d s =>
      let u : State := { s with
        lanes := s.lanes.setIfInBounds (n - 1) (some { l.setExitLock none with
          list := l.list.filter (· != h), used := l.used - s.unitsOf h })
        visits := s.visits.setIfInBounds h (some { v with
          state := d.transitState, place := none, target := some d,
          timer := some s.times.transitLimit, movement := none })
        router := { s.router with scanPending := true } }
      if d = .gate then
        (match v.duty with
          | some slot => u.setDutyState slot .departing
          | none => u).postAt .lanePost n .blank
      else u
    let s1 := s.numberTaken e
    (l.mouth = some (.inbound h) → v.state = .toBerth → v.target = some (.lane n) →
      (b.role = .laneMouth n → exec (.laneMouthPassage line) s = .next (settle s (arrived s))) ∧
      (b.role = .laneEntry n → exec (.laneEntryPassage line) s = .next (settle s (arrived s))) ∧
      (s.Keyed e t .lanePost 0x49 → s.lineEnabled (l.inboundRole n) = false →
        exec .inCode s = .next ((settle s1 (arrived s1)).setReply e.address .accept))) ∧
    (∀ d, l.exitLock = some (.outbound h d) →
      (l.kind = .stack → b.role = .laneMouth n →
        exec (.laneMouthPassage line) s = .next (settle s (departed d s))) ∧
      (b.role = .laneExit n →
        exec (.laneExitPassage line) s = .next (settle s (departed d s))) ∧
      (s.Keyed e t .lanePost 0x4F → s.lineEnabled (l.outboundRole n) = false →
        exec .outCode s = .next ((settle s1 (departed d s1)).setReply e.address .accept))) ∧
    (s.Keyed e t .lanePost 0x49 → l.mouth ≠ some (.inbound h) ∨ v.state ≠ .toBerth ∨
        v.target ≠ some (.lane n) ∨ s.lineEnabled (l.inboundRole n) = true →
      exec .inCode s = .next (s1.setReply e.address (.refuse .notExpected))) ∧
    (s.Keyed e t .lanePost 0x4F → (∀ d, l.exitLock ≠ some (.outbound h d)) ∨
        s.lineEnabled (l.outboundRole n) = true →
      exec .outCode s = .next (s1.setReply e.address (.refuse .notExpected)))) ∧
  ∀ (n : Nat) (e : CodeEntry) (t : Station) (l : Lane) (s : State),
    s.lane n = some l → t.facility = n → t.accumulator ≠ 0 →
    let refused := fun (i : Instr) (r : Reason) =>
      exec i s = .next ((s.numberTaken e).setReply e.address (.refuse r))
    (s.entry t.accumulator = none →
      (s.Keyed e t .lanePost 0x49 →
        refused .inCode (if s.lineEnabled (l.inboundRole n) then .notExpected else .unknownVehicle)) ∧
      (s.Keyed e t .lanePost 0x4F →
        refused .outCode
          (if s.lineEnabled (l.outboundRole n) then .notExpected else .unknownVehicle))) ∧
    ∀ x, s.entry t.accumulator = some x → x.inYard = none →
      (s.Keyed e t .lanePost 0x49 → refused .inCode .notExpected) ∧
      (s.Keyed e t .lanePost 0x4F → refused .outCode .notExpected)

/-- R6, R130, R133: a passage on an enabled line in OPEN whose lane's lock holds no matching movement, or holds one INBOUND for a record that is not TO-BERTH with that lane as its target, latches STRAY-PASSAGE for its line and changes nothing else. A passage in another phase, on a disabled line or on a line of role NONE changes nothing. -/
def Obligations.StrayPassagesAreLatched : Prop :=
  ∀ (n line : Nat) (b : Beam) (s : State), s.beam line = some b →
    let latched := { s with beams := s.beams.setIfInBounds line { b with stray := true } }
    (∀ l, s.boot = .running → s.phase = .opened → b.enabled = true → s.lane n = some l →
      (b.role = .laneMouth n → l.kind = .stack → l.mouth = none →
        exec (.laneMouthPassage line) s = .next latched) ∧
      (b.role = .laneEntry n → (∀ h, l.mouth ≠ some (.inbound h)) →
        exec (.laneEntryPassage line) s = .next latched) ∧
      (b.role = .laneExit n → (∀ h d, l.exitLock ≠ some (.outbound h d)) →
        exec (.laneExitPassage line) s = .next latched) ∧
      (∀ h v, l.mouth = some (.inbound h) → s.visit h = some v →
        v.state ≠ .toBerth ∨ v.target ≠ some (.lane n) →
        (b.role = .laneMouth n → l.kind = .stack →
          exec (.laneMouthPassage line) s = .next latched) ∧
        (b.role = .laneEntry n → exec (.laneEntryPassage line) s = .next latched))) ∧
    (s.phase ≠ .opened ∨ b.enabled = false ∨ b.role = .unassigned →
      exec (.laneMouthPassage line) s = .next s ∧ exec (.laneEntryPassage line) s = .next s ∧
      exec (.laneExitPassage line) s = .next s ∧ exec (.washEntryPassage line) s = .next s ∧
      exec (.washExitPassage line) s = .next s) ∧
    exec (.unassignedLinePassage line) s = .next s

/-- R137: MOVE of a PARKED record at position 0, both lanes not SHUT, the exit lock and a named target's entry lock free, claims the entry lock and units of the target (for 0 the placement engine's) and the exit lock of its own lane for the OUTBOUND movement, which the record carries; else it is answered RANGE, NOT-FOUND, STATE, LOCKED or FULL by the first of its tests that fails. -/
def Obligations.MoveClaimsBothLanes : Prop :=
  (∀ (h k : Nat) (s : State), s.Takes inOpen →
    (127 < h ∨ 20 < k → exec (.move h k) s = .next (s.takeRequest ⟨0x51, .range, []⟩)) ∧
    (h ≤ 127 → k ≤ 20 → s.visit h = none ∨ (k ≠ 0 ∧ s.lane k = none) →
      exec (.move h k) s = .next (s.takeRequest ⟨0x51, .notFound, []⟩)) ∧
    ∀ v p, s.visit h = some v → s.profile h = some p → k ≤ 20 → (k ≠ 0 → s.lane k ≠ none) →
      (∀ n, v.place ≠ some (.lane n)) →
      exec (.move h k) s = .next (s.takeRequest ⟨0x51, .state, []⟩)) ∧
  ∀ (h n m k : Nat) (v : Visit) (p : Profile) (l g : Lane) (s : State), s.Takes inOpen →
    s.visit h = some v → s.profile h = some p → v.place = some (.lane n) → s.lane n = some l →
    k ≤ 20 → (k ≠ 0 → s.lane k ≠ none) →
    (v.state ≠ .parked ∨ l.list.head? ≠ some h ∨ k = n ∨ l.state = .shut ∨
        (s.lane k).map (·.state) = some .shut →
      exec (.move h k) s = .next (s.takeRequest ⟨0x51, .state, []⟩)) ∧
    (v.state = .parked → l.list.head? = some h → k ≠ n → l.state ≠ .shut →
        (s.lane k).map (·.state) ≠ some .shut →
      (l.exitLock ≠ none ∨ (s.lane k).bind (·.mouth) ≠ none →
        exec (.move h k) s = .next (s.takeRequest ⟨0x51, .locked, []⟩)) ∧
      (l.exitLock = none → (s.lane k).bind (·.mouth) = none →
        (k = 0 → s.placement p.units p.key (some n) = none →
          exec (.move h k) s = .next (s.takeRequest ⟨0x51, .full, []⟩)) ∧
        (k = m → s.lane m = some g → g.capacity - g.used - g.reserved < p.units →
          exec (.move h k) s = .next (s.takeRequest ⟨0x51, .full, []⟩)) ∧
        (s.lane m = some g → m ≠ n →
          (k = 0 ∧ s.placement p.units p.key (some n) = some m) ∨
            (k = m ∧ p.units ≤ g.capacity - g.used - g.reserved) →
          exec (.move h k) s = .next ((settle s { s with
            lanes := (s.lanes.setIfInBounds (m - 1) (some { g with
                mouth := some (.inbound h), reserved := g.reserved + p.units })).setIfInBounds (n - 1)
              (some (l.setExitLock (some (.outbound h (.lane m)))))
            visits := s.visits.setIfInBounds h (some { v with movement := some (.lane m) })
            }).takeRequest ⟨0x51, .ok, [byte m]⟩))))

/-! The layout and the yard -/

/-- R2, R3, R5: LANE, ISLAND, WASH and STATION define and undefine the items named: an item defined afresh starts at its fresh run state, a lane, island or wash lane defined again keeps it, a lane's locks free; STATION gives a fresh entry. That an address defined again before its poll keeps its place in the running round, where R168 may be read to leave it to the next, is the model's choice (log 22). A number or value outside its range is answered RANGE. R6, R7: BEAMS gives a line its role and keeps its flag and latch, a facility number with role NONE not being tested, which is the model's choice (log 12); TIMES replaces all time settings and flags, each in its range; else RANGE, and nothing else changes. -/
def Obligations.LayoutRequestsDefineTheItems : Prop :=
  (∀ (n c m : Nat) (s : State), s.Takes inSetup →
     (∀ k : LaneKind, 1 ≤ n → n ≤ 20 → 1 ≤ c → c ≤ 12 →
       let l := match s.lane n with
         | some l => { l with kind := k, capacity := c, mouth := none, far := none }
         | none => { kind := k, capacity := c, state := .opened, list := [], used := 0,
                     reserved := 0, mouth := none, far := none }
       exec (.laneDefine n k.code c) s = .next
         (({ s with lanes := s.lanes.setIfInBounds (n - 1) (some l) } : State).takeRequest
           ⟨0x10, .ok, []⟩)) ∧
     (1 ≤ n → n ≤ 20 → exec (.laneUndefine n) s = .next
       (({ s with lanes := s.lanes.setIfInBounds (n - 1) none } : State).takeRequest
         ⟨0x10, .ok, []⟩)) ∧
     (∀ k : FuelKind, 1 ≤ n → n ≤ 6 →
       let i := match s.island n with
         | some i => { i with fuel := k }
         | none => { fuel := k, state := .opened, queue := [], reserved := 0, turn := none,
                     last := none }
       exec (.islandDefine n k.code) s = .next
         (({ s with islands := s.islands.setIfInBounds (n - 1) (some i) } : State).takeRequest
           ⟨0x11, .ok, []⟩)) ∧
     (1 ≤ n → n ≤ 6 → exec (.islandUndefine n) s = .next
       (({ s with islands := s.islands.setIfInBounds (n - 1) none } : State).takeRequest
         ⟨0x11, .ok, []⟩)) ∧
     (1 ≤ n → n ≤ 3 →
       let w := match s.wash n with
         | some w => w
         | none => { state := .opened, machineReady := false, startPosted := false,
                     entryLock := none, reserved := 0, list := [], drip := none,
                     exitTarget := none }
       exec (.washDefine n) s = .next
         (({ s with washes := s.washes.setIfInBounds (n - 1) (some w) } : State).takeRequest
           ⟨0x12, .ok, []⟩) ∧
       exec (.washUndefine n) s = .next
         (({ s with washes := s.washes.setIfInBounds (n - 1) none } : State).takeRequest
           ⟨0x12, .ok, []⟩)) ∧
     (∀ k : StationKind, 1 ≤ n → n ≤ 16 → facilityOk k m = true →
       let t : Station := {
         kind := k, facility := m, presence := .unknown, missed := 0, last := none,
         accumulator := 0, pendingLevel := none, pendingDefect := false, directive := .blank,
         reply := none }
       exec (.stationDefine n k.code m) s = .next
         (({ s with line := { s.line with
           stations := s.line.stations.setIfInBounds (n - 1) (some t) } } : State).takeRequest
             ⟨0x14, .ok, []⟩)) ∧
     (1 ≤ n → n ≤ 16 → exec (.stationUndefine n) s = .next
       (({ s with line := { s.line with
         stations := s.line.stations.setIfInBounds (n - 1) none
         round := s.line.round.filter (· != n) } } : State).takeRequest ⟨0x14, .ok, []⟩)) ∧
     (∀ k, ¬ (1 ≤ n ∧ n ≤ 20) ∨ ¬ (1 ≤ c ∧ c ≤ 12) ∨ 2 ≤ k →
       exec (.laneDefine n k c) s = .next (s.takeRequest ⟨0x10, .range, []⟩)) ∧
     (∀ k, ¬ (1 ≤ n ∧ n ≤ 6) ∨ 2 ≤ k →
       exec (.islandDefine n k) s = .next (s.takeRequest ⟨0x11, .range, []⟩)) ∧
     (¬ (1 ≤ n ∧ n ≤ 3) → exec (.washDefine n) s = .next (s.takeRequest ⟨0x12, .range, []⟩)) ∧
     (∀ k, ¬ (1 ≤ n ∧ n ≤ 16) ∨ 5 ≤ k ∨ (∃ x : StationKind, k = x.code ∧ facilityOk x m = false) →
       exec (.stationDefine n k m) s = .next (s.takeRequest ⟨0x14, .range, []⟩)) ∧
     (¬ (1 ≤ n ∧ n ≤ 20) → exec (.laneUndefine n) s = .next (s.takeRequest ⟨0x10, .range, []⟩)) ∧
     (¬ (1 ≤ n ∧ n ≤ 6) → exec (.islandUndefine n) s = .next (s.takeRequest ⟨0x11, .range, []⟩)) ∧
     (¬ (1 ≤ n ∧ n ≤ 3) → exec (.washUndefine n) s = .next (s.takeRequest ⟨0x12, .range, []⟩)) ∧
     (¬ (1 ≤ n ∧ n ≤ 16) →
       exec (.stationUndefine n) s = .next (s.takeRequest ⟨0x14, .range, []⟩)) ∧
     (∀ k : StationKind, facilityOk k m = true ↔ match k with
       | .gateIn | .gateOut => m = 0
       | .island => 1 ≤ m ∧ m ≤ 6
       | .wash => 1 ≤ m ∧ m ≤ 3
       | .lanePost => 1 ≤ m ∧ m ≤ 20)) ∧
  (∀ s : State, s.Takes inSetup →
     (∀ line role n r b, s.beam line = some b → roleOf role n = some r →
       exec (.beams line role n) s = .next (({ s with
         beams := s.beams.setIfInBounds line { b with role := r } } : State).takeRequest
           ⟨0x15, .ok, []⟩)) ∧
     (∀ line role n, 48 ≤ line ∨ roleOf role n = none →
       exec (.beams line role n) s = .next (s.takeRequest ⟨0x15, .range, []⟩)) ∧
     (∀ r n, (r ≠ .unassigned → r.facility = some n) →
       (roleOf r.code n = some r ↔ match r with
         | .unassigned => True
         | .laneMouth n | .laneEntry n | .laneExit n => 1 ≤ n ∧ n ≤ 20
         | .washEntry n | .washExit n => 1 ≤ n ∧ n ≤ 3)) ∧
     ∀ a b c d e f : Nat,
       let inRange := 60 ≤ a ∧ a ≤ 1800 ∧ b ≤ 900 ∧ 30 ≤ c ∧ c ≤ 900 ∧ 30 ≤ d ∧ d ≤ 600 ∧ e ≤ 300 ∧
         600 ≤ f ∧ f ≤ 14400
       (∀ g h : Bool, inRange → exec (.times a b c d e f g.toNat h.toNat) s = .next
         (({ s with times := ⟨a, b, c, d, e, f, g, h⟩ } : State).takeRequest ⟨0x16, .ok, []⟩)) ∧
       (∀ g h, ¬ inRange ∨ 2 ≤ g ∨ 2 ≤ h →
         exec (.times a b c d e f g h) s = .next (s.takeRequest ⟨0x16, .range, []⟩)))

/-- R11: OPEN YARD is answered STATE with the number of the first test that fails and its item; with all ten passed the phase is OPEN and every defined lane, island and wash lane stands at its fresh run state. The item is the lowest that fails the test, and 0 for tests 1 to 3. That the test and the item are one byte each is the model's reading (log 26). The tests are the ten of R11. -/
def Obligations.OpenYardTestsAndOpens : Prop :=
  ∀ s : State, s.Takes inSetup →
    (∀ i item, s.openTests[i]? = some (some item) → (∀ j, j < i → s.openTests[j]? = some none) →
      exec .openYard s = .next (s.takeRequest ⟨0x18, .state, [byte (i + 1), byte item]⟩)) ∧
    ((∀ x ∈ s.openTests, x = none) → ∃ u : State, exec .openYard s = .next (u.takeRequest ⟨0x18, .ok, []⟩) ∧
      u = { s with phase := .opened, lanes := u.lanes, islands := u.islands, washes := u.washes } ∧
      (∀ n, u.lane n = (s.lane n).map fun l => { l with
        state := .opened, list := [], used := 0, reserved := 0, mouth := none, far := none }) ∧
      (∀ n, u.island n = (s.island n).map fun i => { i with
        state := .opened, queue := [], reserved := 0, turn := none, last := none }) ∧
      (∀ n, u.wash n = (s.wash n).map fun _ => {
        state := .opened, machineReady := false, startPosted := false, entryLock := none,
        reserved := 0, list := [], drip := none, exitTarget := none })) ∧
    s.openTests.length = 10 ∧
    (let test := fun (k : Nat) (fails : Nat → Prop) =>
       (s.openTests[k]? = some none ↔ ∀ x, ¬ fails x) ∧
       ∀ item, s.openTests[k]? = some (some item) ↔ fails item ∧ ∀ x, fails x → item ≤ x
     test 0 (fun x => x = 0 ∧ s.clock.isSet = false) ∧
     test 1 (fun x => x = 0 ∧ ∀ n, s.lane n = none) ∧
     test 2 (fun x => x = 0 ∧ ∀ a t, s.station a = some t → t.kind = .gateIn → t.facility ≠ 0) ∧
     test 3 (fun l => ∃ b, s.beam l = some b ∧ match b.role with
       | .unassigned => False
       | .laneMouth n | .laneEntry n | .laneExit n => s.lane n = none
       | .washEntry n | .washExit n => s.wash n = none) ∧
     test 4 (fun a => ∃ t, s.station a = some t ∧ match t.kind with
       | .gateIn | .gateOut => False
       | .island => s.island t.facility = none
       | .wash => s.wash t.facility = none
       | .lanePost => s.lane t.facility = none) ∧
     test 5 (fun n => ∃ l, s.lane n = some l ∧
       ¬ (s.linesWith (.laneMouth n) = (if l.kind = .stack then 1 else 0) ∧
         s.linesWith (.laneEntry n) = (if l.kind = .stack then 0 else 1) ∧
         s.linesWith (.laneExit n) = (if l.kind = .stack then 0 else 1))) ∧
     test 6 (fun n => ∃ w, s.wash n = some w ∧
       ¬ (s.linesWith (.washEntry n) = 1 ∧ s.linesWith (.washExit n) = 1)) ∧
     test 7 (fun n => ∃ i, s.island n = some i ∧ s.stationsAt .island n ≠ 1) ∧
     test 8 (fun n => ∃ w, s.wash n = some w ∧ s.stationsAt .wash n ≠ 1) ∧
     test 9 (fun n => ∃ l, s.lane n = some l ∧ 1 < s.stationsAt .lanePost n))

/-- R12, R13, R39, R70, R86, R107, R121, R142, R166, R176, R181: CLOSE YARD is answered STATE with the number of its first condition that fails, in one byte, which is the model's reading (log 26), and else makes the phase SETUP and every directive NONE; YARD CLEAR frees every record and empties every list, lock, queue of an island, latch and the roster, and keeps the layout, the register's entries, clock, stocks and flags. R13 lets each block clear at its own moment; that all clear in the one step of YARD CLEAR is the model's (log 21, DEDUCED). That the plan is left with an empty walk order, walk position 0 and a clear stale mark is the model's choice (log 39). -/
def Obligations.YardClosesAndClears : Prop :=
  ∀ s : State,
    (s.Takes inOpen →
      let condition := if s.live ≠ [] then 1
        else if s.router.exitHeld ≠ [] ∨ s.router.apron ≠ [] then 2
        else if s.roster.state = .active then 3
        else if s.roster.plan.status = .running then 4 else 0
      (condition ≠ 0 → exec .closeYard s = .next (s.takeRequest ⟨0x19, .state, [byte condition]⟩)) ∧
      (condition = 0 → ∃ u : State, exec .closeYard s = .next (u.takeRequest ⟨0x19, .ok, []⟩) ∧
        u = { s with phase := .setup, line := { s.line with stations := u.line.stations } } ∧
        ∀ a, u.station a = (s.station a).map fun t => { t with directive := .blank })) ∧
    (s.Takes inBoth → ∃ u : State, exec .yardClear s = .next (u.takeRequest ⟨0x1A, .ok, []⟩) ∧
      u.boot = s.boot ∧ u.phase = s.phase ∧ u.times = s.times ∧ u.clock = s.clock ∧
      u.cursor = s.cursor ∧ u.pending = s.pending ∧ u.port = s.port ∧
      u.attention = { s.attention with dutyMissed := none, planEnded := none } ∧
      (∀ h, u.visit h = none) ∧ u.router = Router.reset ∧
      u.register = s.register.map (fun e => { e with inYard := none }) ∧
      (∀ n, u.lane n = (s.lane n).map fun l =>
        { l with list := [], used := 0, reserved := 0, mouth := none, far := none }) ∧
      (∀ n, u.island n = (s.island n).map fun i => { i with
        state := if i.state = .check then .opened else i.state
        queue := [], reserved := 0, turn := none, last := none }) ∧
      (∀ n, u.wash n = (s.wash n).map fun w => { w with
        machineReady := w.machineReady || w.startPosted, startPosted := false
        entryLock := none, reserved := 0, list := [], drip := none, exitTarget := none }) ∧
      (∀ k, u.tank k = { s.tank k with committed := 0, lowLatch := none }) ∧
      (∀ l, u.beam l = (s.beam l).map fun b => { b with stray := false }) ∧
      (∀ a, u.station a = (s.station a).map fun t => { t with
        accumulator := 0, pendingLevel := none, pendingDefect := false, directive := .blank
        reply := if t.reply = some .repeatCodes then some .repeatCodes else none }) ∧
      u.line.queue = s.line.queue ∧ u.line.poll = s.line.poll ∧
      u.roster.state = .empty ∧ u.roster.day = 0 ∧ u.roster.releaseEnd = 0 ∧
      u.roster.duties = [] ∧
      (s.roster.plan.status = .running → u.roster.plan = { Plan.reset with
        status := .abandoned, bound := s.roster.plan.bound
        uncovered := s.roster.plan.uncovered, unreachable := s.roster.plan.unreachable }) ∧
      (s.roster.plan.status ≠ .running → u.roster.plan = Plan.reset))

/-! Beam flags and attention -/

/-- R130: BEAM DISABLE and ENABLE set a line's flag and answer its role, facility and flag. R181, R182, R183: ATTENTION READ answers and clears every latch; ATTENTION ENABLE replaces the twelve enables and the master enable; ATTN is active exactly with the master enable set and an enabled condition pending. Outside HALTED each of the twelve conditions of 11.4 is pending by its rule. The layout of ATTENTION READ's data is by log 11, its STOCK-LOW and PLAN-ENDED details by log 33. -/
def Obligations.BeamFlagsAndAttentionAreSet : Prop :=
  (∀ s : State, s.Takes inBoth →
    (∀ l b, s.beam l = some b →
      exec (.beamDisable l) s = .next (({ s with
        beams := s.beams.setIfInBounds l { b with enabled := false } } : State).takeRequest
          ⟨0x52, .ok, [byte b.role.code] ++ o1 b.role.facility ++ [0]⟩) ∧
      exec (.beamEnable l) s = .next (({ s with
        beams := s.beams.setIfInBounds l { b with enabled := true } } : State).takeRequest
          ⟨0x53, .ok, [byte b.role.code] ++ o1 b.role.facility ++ [1]⟩)) ∧
    (∀ l, 48 ≤ l →
      exec (.beamDisable l) s = .next (s.takeRequest ⟨0x52, .range, []⟩) ∧
      exec (.beamEnable l) s = .next (s.takeRequest ⟨0x53, .range, []⟩)) ∧
    (∃ u : State, exec .attentionRead s = .next (u.takeRequest ⟨0x78, .ok, attentionData s⟩) ∧
      u = { s with
        beams := u.beams, diesel := { s.diesel with lowLatch := none }
        gas := { s.gas with lowLatch := none }
        attention := { s.attention with dutyMissed := none, planEnded := none } } ∧
      ∀ l, u.beam l = (s.beam l).map fun b => { b with stray := false }) ∧
    (∀ (e : Nat) (m : Bool), e < 4096 →
      let u := { s with attention := { s.attention with enables := BitVec.ofNat 12 e, master := m } }
      exec (.attentionEnable e m.toNat) s = .next (State.takeRequest u
        ⟨0x79, .ok, bytes2 (State.pendingSet u).toNat ++ [byte (State.highest u)]⟩)) ∧
    (∀ e m, 4096 ≤ e ∨ 2 ≤ m →
      exec (.attentionEnable e m) s = .next (s.takeRequest ⟨0x79, .range, []⟩))) ∧
  ∀ s : State,
    let low := fun (k : FuelKind) => match (s.tank k).lowLatch with
      | some stock => [byte k.code] ++ bytes2 stock
      | none => [0xFF, 0xFF, 0xFF]
    (∃ lines : List Byte, lines.length = 6 ∧
      attentionData s = bytes2 s.pendingSet.toNat ++ bytes2 s.attention.enables.toNat
        ++ [if s.attention.master then 1 else 0, byte s.highest] ++ lines
        ++ (match s.attention.dutyMissed with
            | some m => bytes2 m.first ++ [byte m.count]
            | none => [0xFF, 0xFF, 0xFF])
        ++ low .diesel ++ low .gas
        ++ (match s.attention.planEnded with
            | some p => [byte p.ending.code, byte p.bound, byte p.uncovered, byte p.unreachable]
            | none => [0xFF, 0xFF, 0xFF, 0xFF]) ∧
      ((∃ l b, s.beam l = some b ∧ b.stray = true) → ∀ l b, s.beam l = some b →
        (lines.getD (5 - l / 8) 0).getLsbD (l % 8) = b.stray) ∧
      ((∀ l b, s.beam l = some b → b.stray = false) → lines = List.replicate 6 0xFF)) ∧
    (s.phase = .halted → s.pendingSet = 0) ∧
    (s.phase ≠ .halted →
      let pending := fun (i : Nat) => s.pendingSet.getLsbD i = true
      (pending 0 ↔ ∃ h v, s.visit h = some v ∧ v.state = .astray) ∧
      (pending 1 ↔ ∃ l b, s.beam l = some b ∧ b.stray = true) ∧
      (pending 2 ↔ ∃ n i, s.island n = some i ∧ i.state = .check) ∧
      (pending 3 ↔ ∃ n w, s.wash n = some w ∧ w.state = .fault) ∧
      (pending 4 ↔ s.attention.dutyMissed ≠ none) ∧
      (pending 5 ↔ ∃ slot d r, s.duty slot = some d ∧ d.state = .held r) ∧
      (pending 6 ↔ s.diesel.reserveFlag = true ∨ s.gas.reserveFlag = true) ∧
      (pending 7 ↔ s.diesel.lowLatch ≠ none ∨ s.gas.lowLatch ≠ none) ∧
      (pending 8 ↔ ∃ h v, s.visit h = some v ∧ v.holds.fuelOwed = true) ∧
      (pending 9 ↔ ∃ a t, s.station a = some t ∧ t.presence = .offline) ∧
      (pending 10 ↔ 16 ≤ s.router.apron.length ∨ s.router.exitHeld ≠ []) ∧
      (pending 11 ↔ s.attention.planEnded ≠ none)) ∧
    (s.attn = true ↔ s.boot = .running ∧ s.attention.master = true ∧
      ∃ i, i < 12 ∧ s.pendingSet.getLsbD i = true ∧ s.attention.enables.getLsbD i = true) ∧
    (∀ i, 1 ≤ i → (s.highest = i ↔
      i ≤ 12 ∧ s.pendingSet.getLsbD (i - 1) = true ∧ s.attention.enables.getLsbD (i - 1) = true ∧
      ∀ j, j < i - 1 → ¬ (s.pendingSet.getLsbD j = true ∧ s.attention.enables.getLsbD j = true)))

/-! The Yard Line -/

/-- R168: with no poll in progress, in SETUP and OPEN, POLL SEND polls the first address left in the round, or of a new round over the defined addresses: the frame carries the station's standing directive and reply. With no defined address, a poll in progress, or in HALTED, it does nothing. That a new round's list is taken at this POLL SEND, from the stations then defined, is the model's choice (log 36). -/
def Obligations.PollSendPollsTheNextStation : Prop :=
  ∀ s : State, s.boot = .running →
    (s.phase ≠ .halted → s.line.poll = none →
      (∀ a rest t, s.line.round = a :: rest ∨
          (s.line.round = [] ∧ ((List.range 16).map (· + 1)).filter
            (fun a => (s.station a).isSome) = a :: rest) →
        s.station a = some t → exec .pollSend s = .next { s with line := { s.line with
          round := rest
          poll := some ⟨a, t.directive, t.reply, false, false⟩
          sent := withCheck (byte a :: t.directive.bytes ++ replyBytes t.reply) } }) ∧
      (s.line.round = [] → (∀ a, s.station a = none) → exec .pollSend s = .next s)) ∧
    (s.phase = .halted ∨ s.line.poll ≠ none → exec .pollSend s = .next s)

/-- R169, R170, R171: the outcome of a poll. No byte is a missed poll: a station that has answered before counts it, at most 3, and is OFFLINE at 3. A good frame makes it ONLINE with its status and its codes at the queue's end, whole or, without room, refused with REPEAT; a frame that is not good sets REPEAT and is a missed poll. After any frame a carried STOP still standing gives way to NONE and a carried reply still held is absent. The codes of a good frame from a station undefined since its poll join the queue where there is room, and no entry changes (log 22). -/
def Obligations.PollOutcomeUpdatesTheStation : Prop :=
  (∀ (p : Poll) (t : Station) (received : List Byte) (s : State), s.boot = .running →
    s.line.poll = some p → s.station p.address = some t →
    let missed : Station → Station := fun t =>
      if t.presence = .unknown then t
      else { t with
        missed := min 3 (t.missed + 1)
        presence := if 3 ≤ t.missed + 1 then .offline else t.presence }
    let carried := { t with
      directive := if p.directive = .stop ∧ p.posted = false ∧ t.directive = .stop then .blank
        else t.directive
      reply := if p.reply ≠ none ∧ p.replied = false then none else t.reply }
    let edit : Station → List CodeEntry → State := fun t q => { s with line := { s.line with
      poll := none, queue := q
      stations := s.line.stations.setIfInBounds (p.address - 1) (some t) } }
    (received = [] → exec (.pollOutcome received) s = .next (edit (missed t) s.line.queue)) ∧
    (∀ a status n codes check, received = a :: status :: n :: codes ++ [check] →
      a.toNat = p.address → n.toNat = codes.length → n.toNat ≤ 4 → byteSum received = 0 →
      let key := status.getLsbD 0
      let heard : Station := { carried with
        presence := .online, missed := 0, last := some ⟨key, status.getLsbD 1⟩ }
      (s.line.queue.length + codes.length ≤ 16 → exec (.pollOutcome received) s = .next
        (edit heard (s.line.queue ++ codes.map fun c => ⟨p.address, c, key⟩))) ∧
      (16 < s.line.queue.length + codes.length → exec (.pollOutcome received) s = .next
        (edit { heard with reply := some .repeatCodes } s.line.queue))) ∧
    (received ≠ [] → (∀ a status n codes check, received = a :: status :: n :: codes ++ [check] →
        ¬ (a.toNat = p.address ∧ n.toNat = codes.length ∧ n.toNat ≤ 4 ∧ byteSum received = 0)) →
      exec (.pollOutcome received) s = .next
        (edit { missed carried with reply := some .repeatCodes } s.line.queue))) ∧
  ∀ (p : Poll) (received : List Byte) (s : State), s.boot = .running →
    s.line.poll = some p → s.station p.address = none →
    let ended : List CodeEntry → State := fun q =>
      { s with line := { s.line with poll := none, queue := q } }
    (∀ a status n codes check, received = a :: status :: n :: codes ++ [check] →
      a.toNat = p.address → n.toNat = codes.length → n.toNat ≤ 4 → byteSum received = 0 →
      exec (.pollOutcome received) s = .next (ended (
        if s.line.queue.length + codes.length ≤ 16
        then s.line.queue ++ codes.map fun c => ⟨p.address, c, status.getLsbD 0⟩
        else s.line.queue))) ∧
    ((∀ a status n codes check, received = a :: status :: n :: codes ++ [check] →
        ¬ (a.toNat = p.address ∧ n.toNat = codes.length ∧ n.toNat ≤ 4 ∧ byteSum received = 0)) →
      exec (.pollOutcome received) s = .next (ended s.line.queue))

/-! The Roster Unit -/

/-- R145, R146: ROSTER LOAD makes an EMPTY roster LOADING; DUTY ADD appends a duty OPEN and unbound; ROSTER ARM makes a LOADING roster ACTIVE on its day or ARMED on the day before. Each is answered by the first of its tests that fails. -/
def Obligations.RosterIsLoadedAndArmed : Prop :=
  ∀ s : State, s.Takes inBoth →
    (∀ d e, 65535 < d ∨ 86399 < e →
      exec (.rosterLoad d e) s = .next (s.takeRequest ⟨0x60, .range, []⟩)) ∧
    (∀ d e, d ≤ 65535 → e ≤ 86399 →
      (s.roster.state ≠ .empty → exec (.rosterLoad d e) s = .next (s.takeRequest ⟨0x60, .state, []⟩)) ∧
      (s.roster.state = .empty → exec (.rosterLoad d e) s = .next (({ s with
        roster := { Roster.reset with state := .loading, day := d, releaseEnd := e } } : State).takeRequest
          ⟨0x60, .ok, []⟩))) ∧
    (∀ n p l f,
      let run := exec (.dutyAdd n p l f) s
      let inRange := 1 ≤ n ∧ n ≤ 65535 ∧ p ≤ 86399 ∧ p ≤ s.roster.releaseEnd ∧ l ≤ 1 ∧ f ≤ 2
      let known := ∃ d ∈ s.roster.duties, d.number = n
      (s.roster.state ≠ .loading → run = .next (s.takeRequest ⟨0x61, .state, []⟩)) ∧
      (s.roster.state = .loading → ¬ inRange → run = .next (s.takeRequest ⟨0x61, .range, []⟩)) ∧
      (s.roster.state = .loading → inRange → known →
        run = .next (s.takeRequest ⟨0x61, .conflict, []⟩)) ∧
      (s.roster.state = .loading → inRange → ¬ known → 128 ≤ s.roster.duties.length →
        run = .next (s.takeRequest ⟨0x61, .full, []⟩)) ∧
      (s.roster.state = .loading → inRange → ¬ known → s.roster.duties.length < 128 →
        ∃ d : Duty, d.number = n ∧ d.pullOut = p ∧ d.length.code = l ∧ d.fuelSet.code = f ∧
          d.state = .opened ∧ d.bound = none ∧ d.swapped = false ∧
          run = .next (({ s with roster := { s.roster with duties := s.roster.duties ++ [d] } } :
            State).takeRequest ⟨0x61, .ok, [byte s.roster.duties.length]⟩))) ∧
    (let armed : RosterState → State := fun x => { s with roster := { s.roster with state := x } }
     (s.roster.state ≠ .loading ∨ s.clock.isSet = false →
       exec .rosterArm s = .next (s.takeRequest ⟨0x62, .state, []⟩)) ∧
     (s.roster.state = .loading → s.clock.isSet = true → s.roster.day = s.clock.day →
       exec .rosterArm s = .next ((armed .active).takeRequest ⟨0x62, .ok, [3]⟩)) ∧
     (s.roster.state = .loading → s.clock.isSet = true → s.roster.day ≠ s.clock.day →
       s.roster.day = (s.clock.day + 1) % 65536 →
       exec .rosterArm s = .next ((armed .armed).takeRequest ⟨0x62, .ok, [2]⟩)) ∧
     (s.roster.state = .loading → s.clock.isSet = true → s.roster.day ≠ s.clock.day →
       s.roster.day ≠ (s.clock.day + 1) % 65536 →
       exec .rosterArm s = .next (s.takeRequest ⟨0x62, .range, []⟩)))

/-- R147, R149, R158, R161, R164: a close, by ROSTER CLOSE or at the release end, makes every OPEN, BOUND, HELD and CALLED duty MISSED and unbound, its record PARKED where it was CALLED, with the exit lock free and the lane post's directive NONE; other duties stand, a running sweep is ABANDONED with PLAN-ENDED latched, and DUTY-MISSED keeps its first number and counts every duty missed, to 128. That a fresh latch takes the number of the earliest pull-out is the model's choice (log 20). ROSTER CLEAR of a LOADING or CLOSED roster discards it and unbinds every record; that the plan is left with an empty walk order, walk position 0 and a clear stale mark is the model's choice (log 39). That the close at the release end is marked due and taken by its own command is the model's choice (log 3), and so is that this command does nothing where no close is due (log 1). -/
def Obligations.RosterClosesAndClears : Prop :=
  ∀ s : State, s.BindingLaw →
    let missed := (s.roster.duties.filter (·.state.missable)).length
    (s.Takes inBoth →
      (s.roster.state = .armed ∨ s.roster.state = .active → ∃ u : State,
        exec .rosterClose s = .next (u.takeRequest ⟨0x63, .ok, [byte missed]⟩) ∧ s.ClosesTo u) ∧
      (s.roster.state ≠ .armed → s.roster.state ≠ .active →
        exec .rosterClose s = .next (s.takeRequest ⟨0x63, .state, []⟩)) ∧
      (s.roster.state = .loading ∨ s.roster.state = .closed → ∃ u : State,
        exec .rosterClear s = .next (u.takeRequest ⟨0x64, .ok, []⟩) ∧
        u = { s with visits := u.visits, roster := Roster.reset } ∧
        ∀ h, u.visit h = (s.visit h).map fun v => { v with duty := none }) ∧
      (s.roster.state ≠ .loading → s.roster.state ≠ .closed →
        exec .rosterClear s = .next (s.takeRequest ⟨0x64, .state, []⟩))) ∧
    (s.boot = .running →
      (s.roster.closeDue = true → s.roster.state = .active →
        ∃ u : State, exec .releaseEndClose s = .next u ∧ s.ClosesTo u) ∧
      (s.roster.closeDue = false → exec .releaseEndClose s = .next s))

/-- R150, R151, R152, R153: DUTY BIND, UNBIND, SWAP and CANCEL, taken, write both sides of the binding and the duty's state at one event; else each is answered by the first of its tests that fails: RANGE for a number or handle outside its range, NOT-FOUND for a number in no slot or a free slot of the Visit Table, STATE, or CONFLICT for a record that is not compatible. STATE is the answer of BIND in a roster neither ARMED nor ACTIVE, of a duty neither OPEN nor HELD(UNCOVERED), of a bound record or one TO-GATE; of UNBIND and SWAP where a duty is neither BOUND nor HELD for another reason than UNCOVERED, or the two numbers of SWAP are equal; of CANCEL where the duty is DEPARTING or final. -/
def Obligations.BindingRequestsWriteBothSides : Prop :=
  (∀ (k j : Nat) (s : State),
    let outside := fun x : Nat => x = 0 ∨ 65535 < x
    let unknown := fun x : Nat => ¬ outside x ∧ ∀ y ∈ s.roster.duties, y.number ≠ x
    (s.Takes inOpen →
      (outside k ∨ 127 < j →
        exec (.dutyBind k j) s = .next (s.takeRequest ⟨0x65, .range, []⟩)) ∧
      (¬ outside k → j ≤ 127 → unknown k ∨ s.visit j = none →
        exec (.dutyBind k j) s = .next (s.takeRequest ⟨0x65, .notFound, []⟩)) ∧
      (outside k → exec (.dutyUnbind k) s = .next (s.takeRequest ⟨0x66, .range, []⟩)) ∧
      (unknown k → exec (.dutyUnbind k) s = .next (s.takeRequest ⟨0x66, .notFound, []⟩)) ∧
      (outside k ∨ outside j →
        exec (.dutySwap k j) s = .next (s.takeRequest ⟨0x67, .range, []⟩)) ∧
      (¬ outside k → ¬ outside j → unknown k ∨ unknown j →
        exec (.dutySwap k j) s = .next (s.takeRequest ⟨0x67, .notFound, []⟩))) ∧
    (s.Takes inBoth →
      (outside k → exec (.dutyCancel k) s = .next (s.takeRequest ⟨0x68, .range, []⟩)) ∧
      (unknown k → exec (.dutyCancel k) s = .next (s.takeRequest ⟨0x68, .notFound, []⟩)))) ∧
  (∀ (n m slot other h : Nat) (d x : Duty) (v : Visit) (s : State), s.Takes inOpen →
    1 ≤ n → n ≤ 65535 → s.slotOf n = some slot → s.duty slot = some d → s.visit h = some v →
    let movable := fun y : Duty => y.state = .bound ∨ ∃ r, y.state = .held r ∧ r ≠ .uncovered
    ((s.roster.state ≠ .armed ∧ s.roster.state ≠ .active) ∨
        (d.state ≠ .opened ∧ d.state ≠ .held .uncovered) ∨ v.duty ≠ none ∨ v.state = .toGate →
      exec (.dutyBind n h) s = .next (s.takeRequest ⟨0x65, .state, []⟩)) ∧
    (¬ movable d → exec (.dutyUnbind n) s = .next (s.takeRequest ⟨0x66, .state, []⟩)) ∧
    (1 ≤ m → m ≤ 65535 → s.slotOf m = some other → s.duty other = some x →
      n = m ∨ ¬ movable d ∨ ¬ movable x →
      exec (.dutySwap n m) s = .next (s.takeRequest ⟨0x67, .state, []⟩))) ∧
  ∀ (n m slot other h g : Nat) (d x : Duty) (v w : Visit) (s : State),
    1 ≤ n → n ≤ 65535 → s.slotOf n = some slot → s.duty slot = some d → s.visit h = some v →
    (s.Takes inOpen → s.roster.state = .armed ∨ s.roster.state = .active →
      d.state = .opened ∨ d.state = .held .uncovered → v.duty = none → v.state ≠ .toGate →
      (s.compatible h d = true → exec (.dutyBind n h) s = .next
        (let d' := { d with bound := some h, state := if d.state = .opened then .bound else d.state }
         let u := settle s { s with
           roster := { s.roster with duties := s.roster.duties.set slot d' }
           visits := s.visits.setIfInBounds h (some { v with duty := some slot }) }
         u.takeRequest ⟨0x65, .ok, u.dutyStateByte slot⟩)) ∧
      (s.compatible h d = false →
        exec (.dutyBind n h) s = .next (s.takeRequest ⟨0x65, .conflict, []⟩))) ∧
    (s.Takes inOpen → d.bound = some h →
      d.state = .bound ∨ (∃ r, d.state = .held r ∧ r ≠ .uncovered) →
      exec (.dutyUnbind n) s = .next
        (let d' := { d with
           bound := none
           state := if s.roster.state = .armed ∨ s.clock.second < d.pullOut - s.times.callLead
             then .opened else .held .uncovered }
         let u := settle s { s with
           roster := { s.roster with duties := s.roster.duties.set slot d' }
           visits := s.visits.setIfInBounds h (some { v with duty := none }) }
         u.takeRequest ⟨0x66, .ok, u.dutyStateByte slot⟩)) ∧
    (s.Takes inOpen → 1 ≤ m → m ≤ 65535 → s.slotOf m = some other → s.duty other = some x →
      s.visit g = some w → n ≠ m → h ≠ g → d.bound = some h → x.bound = some g →
      d.state.movable = true → x.state.movable = true →
      (s.compatible h x = true → s.compatible g d = true → exec (.dutySwap n m) s = .next
        (let duties :=
           (s.roster.duties.set slot { d with bound := some g }).set other { x with bound := some h }
         let u := settle s { s with
           roster := { s.roster with duties := duties }
           visits := (s.visits.setIfInBounds g (some { w with duty := some slot })).setIfInBounds h
             (some { v with duty := some other }) }
         u.takeRequest ⟨0x67, .ok, u.dutyStateByte slot ++ u.dutyStateByte other⟩)) ∧
      (s.compatible h x = false ∨ s.compatible g d = false →
        exec (.dutySwap n m) s = .next (s.takeRequest ⟨0x67, .conflict, []⟩))) ∧
    (s.Takes inBoth →
      let duties := s.roster.duties.set slot { d with bound := none, state := .cancelled }
      (d.bound = some h → d.state = .bound ∨ d.state.reason ≠ none →
        exec (.dutyCancel n) s = .next ((settle s { s with
          roster := { s.roster with duties := duties }
          visits := s.visits.setIfInBounds h (some { v with duty := none }) }).takeRequest
            ⟨0x68, .ok, []⟩)) ∧
      (d.bound = none → d.state = .opened ∨ d.state = .held .uncovered →
        exec (.dutyCancel n) s = .next ((settle s { s with
          roster := { s.roster with duties := duties } }).takeRequest ⟨0x68, .ok, []⟩)) ∧
      (∀ k l, d.bound = some h → d.state = .called → v.place = some (.lane k) →
        s.lane k = some l → l.exitLock = some (.outbound h .gate) →
        ∃ u : State, exec (.dutyCancel n) s = .next ((settle s u).takeRequest ⟨0x68, .ok, []⟩) ∧
          u.roster = { s.roster with duties := duties } ∧
          u.visit h = some { v with duty := none, state := .parked, movement := none } ∧
          u.lane k = some (l.setExitLock none)) ∧
      (d.state.missable = false →
        exec (.dutyCancel n) s = .next (s.takeRequest ⟨0x68, .state, []⟩)))

/-- R155, R158: a call check holds the duty UNCOVERED without a binding and with auto-bind OFF; IN-SERVICE for a record not PARKED, NOT-READY, LANE-SHUT, BLOCKED behind another record with auto-swap OFF, MOUTH-BUSY with the exit lock held, in this order; else it calls: the duty and the record are CALLED, the record's movement and the exit lock are OUTBOUND to the gate, and CALL is posted. With auto-swap OFF no other duty is re-tested with it. CALL_CHECK takes the first due (log 3). -/
def Obligations.CallCheckHoldsOrCalls : Prop :=
  ∀ (slot : Nat) (d : Duty) (s : State), s.duty slot = some d →
    let held := fun (r : HeldReason) => { s with roster := { s.roster with
      duties := s.roster.duties.set slot { d with state := .held r } } }
    (s.times.autoBind = false → d.bound = none → s.callCheck slot = held .uncovered) ∧
    (∀ h v n l, d.bound = some h → s.visit h = some v →
      (v.state ≠ .parked → s.callCheck slot = held .inService) ∧
      (v.state = .parked → v.ready = false → s.callCheck slot = held .notReady) ∧
      (v.state = .parked → v.ready = true → v.place = some (.lane n) → s.lane n = some l →
        (l.state = .shut → s.callCheck slot = held .laneShut) ∧
        (s.times.autoSwap = false → l.state ≠ .shut → (∃ c, l.list.head? = some c ∧ c ≠ h) →
          s.callCheck slot = held .blocked) ∧
        (l.state ≠ .shut → l.list.head? = some h → l.exitLock ≠ none →
          s.callCheck slot = held .mouthBusy) ∧
        (l.state ≠ .shut → l.list.head? = some h → l.exitLock = none →
          s.callCheck slot = ({ s with
            roster := { s.roster with duties := s.roster.duties.set slot { d with state := .called } }
            visits := s.visits.setIfInBounds h
              (some { v with state := .called, movement := some .gate })
            lanes := s.lanes.setIfInBounds (n - 1)
              (some (l.setExitLock (some (.outbound h .gate)))) } : State).postAt .lanePost n
                (.call v.fleet)))) ∧
    (s.times.autoSwap = false → s.callCheckFollowed slot = s.callCheck slot) ∧
    (∀ rest, s.boot = .running → s.roster.closeDue = false → s.roster.missesDue = [] →
      s.roster.checksDue = slot :: rest → s.roster.state = .active →
      d.state = .opened ∨ d.state = .bound →
      let s1 := { s with roster := { s.roster with checksDue := rest } }
      exec .callCheck s = .next (settle s1 (State.callCheckFollowed s1 slot)))

/-- R155, R157: with auto-swap ON, the call check of a duty whose READY record stands behind another is BLOCKED unless the record at position 0 is READY and compatible and is unbound, or bound to a later duty that is BOUND or HELD and takes the other record. Then the checked duty takes the record at position 0, the one behind it is free or takes the other duty, every duty moved is marked swapped, and the check goes on with the new record: MOUTH-BUSY or the call; the other duty, where it is HELD, is re-tested after it. R156: with auto-bind ON, the call check of an unbound duty takes, of the unbound, compatible, READY records at position 0 of a lane not SHUT with a free exit lock, the one of lowest fleet number, leaves swapped clear and calls it; with none the duty is HELD(UNCOVERED). That the flag is cleared also where an earlier auto-swap had set it is the model's reading of R156 (log 32). -/
def Obligations.AutoSwapAndAutoBindTakeARecord : Prop :=
  ∀ (slot : Nat) (d : Duty) (s : State), s.duty slot = some d →
    let held := fun (r : HeldReason) => { s with roster := { s.roster with
      duties := s.roster.duties.set slot { d with state := .held r } } }
    (∀ h c v w n l, s.times.autoSwap = true → d.bound = some h → s.visit h = some v →
      s.visit c = some w → h ≠ c → v.state = .parked → v.ready = true → v.place = some (.lane n) →
      s.lane n = some l → l.state ≠ .shut → l.list.head? = some c →
      let swaps := fun (duties : List Duty) (free : Option Nat) =>
        let won := fun (x : DutyState) (w : Visit) => { s with
          roster := { s.roster with
            duties := duties.set slot { d with bound := some c, swapped := true, state := x } }
          visits := (s.visits.setIfInBounds h (some { v with duty := free })).setIfInBounds c
            (some { w with duty := some slot }) }
        (l.exitLock ≠ none → s.callCheck slot = won (.held .mouthBusy) w) ∧
        (l.exitLock = none → s.callCheck slot =
          ({ (won .called { w with state := .called, movement := some .gate }) with
            lanes := s.lanes.setIfInBounds (n - 1)
              (some (l.setExitLock (some (.outbound c .gate)))) } : State).postAt .lanePost n
                (.call w.fleet))
      (w.ready = false ∨ s.compatible c d = false → s.callCheck slot = held .blocked) ∧
      (w.ready = true → s.compatible c d = true →
        (w.duty = none → swaps s.roster.duties none ∧
          s.callCheckFollowed slot = s.callCheck slot) ∧
        (∀ other e, w.duty = some other → s.duty other = some e → other ≠ slot →
          let may := (e.state = .bound ∨ e.state.reason ≠ none) ∧ d.pullOut < e.pullOut ∧
            s.compatible h e = true
          (¬ may → s.callCheck slot = held .blocked) ∧
          (may →
            swaps (s.roster.duties.set other { e with bound := some h, swapped := true })
              (some other) ∧
            (e.state = .bound → s.callCheckFollowed slot = s.callCheck slot) ∧
            (e.state ≠ .bound → e.bound = some c →
              s.callCheckFollowed slot = (s.callCheck slot).callCheck other))))) ∧
    (s.times.autoBind = true → d.bound = none →
      let fits := fun (h m : Nat) (v : Visit) (l : Lane) =>
        s.lane m = some l ∧ l.state ≠ .shut ∧ l.exitLock = none ∧ l.list.head? = some h ∧
          s.visit h = some v ∧ v.duty = none ∧ v.ready = true ∧ s.compatible h d = true
      ((∀ h m v l, ¬ fits h m v l) → s.callCheck slot = held .uncovered) ∧
      (∀ h n v l, fits h n v l → v.state = .parked → v.place = some (.lane n) →
        (∀ g m w k, fits g m w k → g = h ∨ v.fleet < w.fleet) →
        let d' := { d with bound := some h, swapped := false, state := .called }
        s.callCheck slot = ({ s with
          roster := { s.roster with duties := s.roster.duties.set slot d' }
          visits := s.visits.setIfInBounds h
            (some { v with duty := some slot, state := .called, movement := some .gate })
          lanes := s.lanes.setIfInBounds (n - 1)
            (some (l.setExitLock (some (.outbound h .gate)))) } : State).postAt .lanePost n
              (.call v.fleet)))

/-- R161: a due miss of an ACTIVE roster makes the duty MISSED and unbound, a CALLED record PARKED with its exit lock free, and latches DUTY-MISSED with the first number and a count of at most 128. The lists of what is due are the model's (log 3). -/
def Obligations.MissedDutiesAreUnboundAndLatched : Prop :=
  ∀ (slot h : Nat) (d : Duty) (v : Visit) (s : State), s.duty slot = some d →
    (s.boot = .running → s.roster.closeDue = false → s.roster.state = .active →
      d.state.missable = true → ∀ rest, s.roster.missesDue = slot :: rest →
      let s1 := { s with roster := { s.roster with missesDue := rest } }
      exec .dutyMiss s = .next (settle s1 (State.miss s1 slot))) ∧
    (let t := s.miss slot
     t.duty slot = some { d with state := .missed, bound := none } ∧
     (∀ k, k ≠ slot → t.duty k = s.duty k) ∧
     t.attention.dutyMissed = some (match s.attention.dutyMissed with
       | some m => ⟨m.first, min 128 (m.count + 1)⟩
       | none => ⟨d.number, 1⟩) ∧
     (∀ n l, d.bound = some h → d.state = .called → s.visit h = some v →
       v.place = some (.lane n) → s.lane n = some l → l.exitLock = some (.outbound h .gate) →
       t.visit h = some { v with state := .parked, movement := none, duty := none } ∧
       t.lane n = some (l.setExitLock none)) ∧
     (d.state ≠ .called → d.bound = some h → s.visit h = some v →
       t.visit h = some { v with duty := none } ∧ t.lanes = s.lanes))

/-- R162, R163, R164: PLAN BUILD starts a sweep over all duties in ascending pull-out; a sweep step takes one duty: an OPEN or HELD(UNCOVERED) one is bound to the record picked or counted uncovered, one with a record tested for reach and counted unreachable. R163: the record picked is, of the unbound compatible records, a READY one at position 0, else a READY one at the least position, else one in service, in transit to a facility, or PARKED and not READY; each time the lowest fleet number. A record is reachable when it is PARKED or CALLED with no record in front of it of a greater key. The step after which no duty is left ends the sweep DONE, or STALE, and latches PLAN-ENDED. The re-test of a duty just bound comes before its reach test (log 19). -/
def Obligations.PlanSweepWalksTheDuties : Prop :=
  ∀ s : State,
    (s.Takes inOpen →
      (s.roster.state ≠ .armed → s.roster.state ≠ .active →
        exec .planBuild s = .next (s.takeRequest ⟨0x69, .state, []⟩)) ∧
      (s.roster.state = .armed ∨ s.roster.state = .active →
        (s.roster.plan.status = .running →
          exec .planBuild s = .next (s.takeRequest ⟨0x69, .busy, []⟩)) ∧
        (s.roster.plan.status ≠ .running → ∃ order : List Nat,
          s.InPullOutOrder order ∧ order.Perm (List.range s.roster.duties.length) ∧
          exec .planBuild s = .next (({ s with roster := { s.roster with
            plan := ⟨.running, 0, 0, 0, order, 0, false⟩ } } : State).takeRequest
              ⟨0x69, .ok, [byte s.roster.duties.length]⟩)))) ∧
    (s.boot = .running → s.roster.plan.status = .running → ∀ slot d,
      s.roster.plan.order[s.roster.plan.walk]? = some slot → s.duty slot = some d →
      let p := s.roster.plan
      let stepped : State → Plan → Prop := fun s1 q =>
        let last := decide (p.order.length ≤ p.walk + 1)
        let ending := if p.stale = true then PlanStatus.stale else .done
        ∃ u : State, exec .planSweepStep s = .next u ∧
          u.roster.plan = { q with
            walk := p.walk + 1, status := if last then ending else .running } ∧
          u.roster.duties = s1.roster.duties ∧ u.visits = s1.visits ∧ u.lanes = s1.lanes ∧
          u.attention.planEnded = (if last then some ⟨ending, q.bound, q.uncovered, q.unreachable⟩
            else s.attention.planEnded)
      (d.state = .opened ∨ d.state = .held .uncovered →
        (s.sweepPick d = none → stepped s { p with uncovered := p.uncovered + 1 }) ∧
        (∀ h v, s.sweepPick d = some h → s.visit h = some v →
          let d' := { d with bound := some h, state := if d.state = .opened then .bound else d.state }
          let counted := { p with bound := p.bound + 1 }
          let s1 := retests s { s with
            roster := { s.roster with duties := s.roster.duties.set slot d', plan := counted }
            visits := s.visits.setIfInBounds h (some { v with duty := some slot }) }
          ∀ g, State.boundOf s1 slot = some g →
            let lost := if State.reachable s1 g = true then 0 else 1
            stepped s1 { p with bound := p.bound + 1, unreachable := p.unreachable + lost })) ∧
      (∀ h, d.bound = some h →
        d.state = .bound ∨ d.state = .called ∨ (∃ r, d.state = .held r ∧ r ≠ .uncovered) →
        let lost := if s.reachable h = true then 0 else 1
        stepped s { p with unreachable := p.unreachable + lost }) ∧
      (d.state = .departing ∨ d.state = .gone ∨ d.state = .missed ∨ d.state = .cancelled →
        stepped s p)) ∧
    (∀ d : Duty,
      let free := fun (h : Nat) (v : Visit) =>
        s.visit h = some v ∧ v.duty = none ∧ s.compatible h d = true
      let ready := fun h => ∃ v, free h v ∧ v.ready = true
      let depth := fun h => (s.position h).getD 0
      let third := fun h => ∃ v, free h v ∧ match v.state with
        | .apron | .toIsland | .toWash | .toBerth | .atIsland _ | .atWash _ => True
        | .parked => v.ready = false
        | _ => False
      let lowest := fun (of : Nat → Prop) (h : Nat) => of h ∧ ∀ g, of g →
        s.fleetOf h < s.fleetOf g ∨ (s.fleetOf h = s.fleetOf g ∧ h ≤ g)
      (∀ h, s.sweepPick d = some h ↔
        lowest (fun h => ready h ∧ depth h = 0) h ∨
        ((∀ g, ready g → depth g ≠ 0) ∧
          lowest (fun h => ready h ∧ ∀ g, ready g → depth h ≤ depth g) h) ∨
        ((∀ g, ¬ ready g) ∧ lowest third h)) ∧
      (s.sweepPick d = none ↔ ∀ h, ¬ ready h ∧ ¬ third h)) ∧
    ∀ h v, s.visit h = some v → s.fleetOf h = v.fleet ∧
      (s.reachable h = true ↔ (v.state = .parked ∨ v.state = .called) ∧
        ∃ n, v.place = some (.lane n) ∧
          ∀ g ∈ (s.listAt (.lane n)).takeWhile (· != h), s.key g ≤ s.key h)

/-- R80: a dispatch scan is taken where the flag is set; it clears the flag and walks the exit-held entries, then the apron, in order; an entry that has a target leaves the list, its target claimed: an apron record goes into transit, the head of an island leaves its queue for the target with GO posted, which is capacity, and the next turn there may start, the head of a wash lane gets its exit target. An entry with no target stays. R73: a FUEL entry whose stage is skipped becomes OWED and is met by its next stage. A scan inside the scan is bounded (log 14). That DISPATCH_SCAN with the flag clear changes nothing is the model's choice (log 1). -/
def Obligations.DispatchScanServesTheWaitList : Prop :=
  ∀ s : State,
    (s.boot = .running → s.router.scanPending = true →
      exec .dispatchScan s = .next (settle s s.scan)) ∧
    (s.router.scanPending = false → exec .dispatchScan s = .next s) ∧
    s.scan = (s.router.exitHeld ++ s.router.apron).foldl (dispatchEntry (scanWithin 24))
      { s with router := { s.router with scanPending := false } } ∧
    (∀ (f : State → State) (e : WaitEntry) (v : Visit) (p : Profile),
      s.waitEntry e.handle = some e → s.visit e.handle = some v → s.profile e.handle = some p →
      (∀ t, s.targetFor p e.need = some t → e.place = .apron →
        dispatchEntry f s e = ({ s with
          router := { s.router with
            exitHeld := s.router.exitHeld.filter (·.handle != e.handle)
            apron := s.router.apron.filter (·.handle != e.handle) }
          visits := s.visits.setIfInBounds e.handle (some { v with
            state := t.transitState, place := none, target := some t,
            timer := some s.times.transitLimit, movement := none }) } : State).claim
              e.handle p.units t) ∧
      (∀ m n, s.targetFor p e.need = some (.lane m) → e.place = .wash n →
        dispatchEntry f s e = ((({ s with router := { s.router with
          exitHeld := s.router.exitHeld.filter (·.handle != e.handle)
          apron := s.router.apron.filter (·.handle != e.handle) } } : State).claim e.handle p.units
            (.lane m)).modWash n (fun w => { w with exitTarget := some m })).postAt .wash n
              (.go (.lane m))) ∧
      (∀ n i t, s.targetFor p e.need = some t → e.place = .island n → s.island n = some i →
        dispatchEntry f s e = turnStarts f 5 n ((({ s with
          router := { s.router with
            exitHeld := s.router.exitHeld.filter (·.handle != e.handle)
            apron := s.router.apron.filter (·.handle != e.handle)
            scanPending := true }
          islands := s.islands.setIfInBounds (n - 1)
            (some { i with queue := i.queue.filter (· != e.handle) })
          visits := s.visits.setIfInBounds e.handle (some { v with
            state := t.transitState, place := none, target := some t,
            timer := some s.times.transitLimit, movement := none }) } : State).claim
              e.handle p.units t).postAt .island n t.directive)) ∧
      (s.targetFor p e.need = none → e.need ≠ .fuel ∨ s.fuelSkipped p = false →
        dispatchEntry f s e = s) ∧
      (s.targetFor p e.need = none → e.need = .fuel → s.fuelSkipped p = true →
        let next := if v.washResult = .unset ∧ v.skipWash = false then Stage.wash else .berth
        let moved := fun (x : WaitEntry) => if x.handle = e.handle then { x with need := next } else x
        let s1 : State := { s with
          visits := s.visits.setIfInBounds e.handle (some { v with
            fuelResult := .owed, holds := { v.holds with fuelOwed := true } })
          router := { s.router with
            exitHeld := s.router.exitHeld.map moved, apron := s.router.apron.map moved } }
        dispatchEntry f s e = dispatchEntry f s1 { e with need := next } ∧
          (s.targetFor p next = none → dispatchEntry f s e = s1))) ∧
    (∀ e : WaitEntry, s.waitEntry e.handle = none → ∀ f, dispatchEntry f s e = s)

/-! Frames -/

/-- 11.1, 11.3: the frame of every well-formed request decodes to that request, with every operand at every value the encoding admits. The widths in the frames of TIMES and ROUTE FLAGS are the model's choice (log 10). -/
def Obligations.RequestFramesDecodeToTheRequest : Prop :=
  ∀ (i : Instr) (frame : List Byte),
    i.wellFormed = true → encodeFrame i = some frame → decodeFrame frame = .request i

/-! Laws that every step keeps -/

/-- The power-on state satisfies the laws of this package: of the clock (R15), the register (R24, R31, R33), the in-yard links (R34), the stock (R101, R103), the Yard Line (R167, R171), the port (R177, R178), no record outside OPEN (R10), bindings (R144, R150), the roster (R143), held and called duties (R144, R158), and of the records' places, the Wait List, the islands, the committed amounts, the wash lanes, the lanes and the calls (R43, R77, R89, R101, R110, R123, R124, R158). -/
def Obligations.PowerOnSatisfiesTheLaws : Prop :=
  State.reset.ClockLaw ∧ State.reset.RegisterLaw ∧ State.reset.StockLaw ∧ State.reset.LineLaw ∧
    State.reset.PortLaw ∧ State.reset.SetupLaw ∧ State.reset.BindingLaw ∧ State.reset.RosterLaw ∧
    State.reset.ActiveLaw ∧ State.reset.LinkLaw ∧ State.reset.YardLaw

/-- R15, R177, R178: every step keeps the clock in its ranges, the second of the last second event with it, and the port's law: no answer is held beside a request in hand, and a held frame has at most 64 data bytes and a sum of 0. R167, R171: every step keeps the stations' entries in their ranges and at most 16 codes in the queue. R101, R102, R103: every step keeps the committed amount at most the stock, the stock at most the capacity, and the flags as the comparison gives them. -/
def Obligations.StepKeepsClockPortLineAndStockLaws : Prop :=
  (∀ s t : State, step s = .next t → (s.ClockLaw → t.ClockLaw) ∧ (s.PortLaw → t.PortLaw)) ∧
  (∀ s t : State, s.LineLaw → step s = .next t → t.LineLaw) ∧
  ∀ s t : State, s.StockLaw → step s = .next t → t.StockLaw

/-- R24, R31, R33: every step keeps the register in ascending order with at most 256 entries in their ranges, and the cursor, outside the end mark, at most the entry count. R34: every step keeps the in-yard links on both sides: an in-yard field names the live record of its vehicle, and every live record's vehicle is in the register and its entry names the record, so no two live records are of one vehicle. -/
def Obligations.StepKeepsRegisterAndLinkLaws : Prop :=
  (∀ s t : State, s.RegisterLaw → step s = .next t → t.RegisterLaw) ∧
  (∀ s t : State, s.RegisterLaw → s.LinkLaw → step s = .next t → t.LinkLaw) ∧
  ∀ (s : State) (h k : Nat) (v w : Visit), s.LinkLaw → s.visit h = some v → s.visit k = some w →
    v.fleet = w.fleet → h = k

/-- R43, R77, R89, R101, R110, R123, R124, R158: in a yard whose register, in-yard links, bindings and duties keep their laws, every step keeps: each live record in exactly one place, by its state; at most 16 apron entries, no record twice in the Wait List, exit-held entries only for heads of their facility; an island's turn belonging to its head, queue and reserved count at most 4; the committed amount equal to the sum of the limits of the turns; only a wash lane's head in another sub-position than QUEUED, list and reserved count at most 3, its entry lock naming the record sent there; a lane's used and reserved units at most its capacity, and each record its locks name in the state that the movement implies; a duty CALLED exactly when its bound record is, and that record READY, at position 0 and named by the exit lock. -/
def Obligations.StepKeepsYardLaws : Prop :=
  ∀ s t : State, s.RegisterLaw → s.LinkLaw → s.SetupLaw → s.BindingLaw → s.ActiveLaw → s.YardLaw →
    step s = .next t → t.YardLaw

/-- R143, R144, R150, R10, R158, R162: every step keeps the bindings on both sides, the duties' numbers distinct and within the release end, no record outside OPEN, and HELD and CALLED duties only in an ACTIVE roster, BOUND ones and a running sweep only in an ARMED or ACTIVE one, every CALLED record bound to a CALLED duty. -/
def Obligations.StepKeepsRosterLaws : Prop :=
  ∀ s t : State, s.BindingLaw → s.RosterLaw → s.SetupLaw → s.ActiveLaw → step s = .next t →
    t.BindingLaw ∧ t.RosterLaw ∧ t.SetupLaw ∧ t.ActiveLaw
end

