-- ==== Sys2Proof/Laws/State.lean ====
section
/-!
SUPPORT. One lemma per field and update of a block: the block that is set holds the new value, every other field stands. So no later proof unfolds a record update.
-/
namespace Sys2Proof.Machine

/-! setPhase -/

@[simp] theorem State.setPhase_boot (s : State) (x : Phase) : (s.setPhase x).boot = s.boot := rfl
@[simp] theorem State.setPhase_checkPassed (s : State) (x : Phase) : (s.setPhase x).checkPassed = s.checkPassed := rfl
@[simp] theorem State.setPhase_phase (s : State) (x : Phase) : (s.setPhase x).phase = x := rfl
@[simp] theorem State.setPhase_times (s : State) (x : Phase) : (s.setPhase x).times = s.times := rfl
@[simp] theorem State.setPhase_beams (s : State) (x : Phase) : (s.setPhase x).beams = s.beams := rfl
@[simp] theorem State.setPhase_clock (s : State) (x : Phase) : (s.setPhase x).clock = s.clock := rfl
@[simp] theorem State.setPhase_register (s : State) (x : Phase) : (s.setPhase x).register = s.register := rfl
@[simp] theorem State.setPhase_cursor (s : State) (x : Phase) : (s.setPhase x).cursor = s.cursor := rfl
@[simp] theorem State.setPhase_visits (s : State) (x : Phase) : (s.setPhase x).visits = s.visits := rfl
@[simp] theorem State.setPhase_router (s : State) (x : Phase) : (s.setPhase x).router = s.router := rfl
@[simp] theorem State.setPhase_islands (s : State) (x : Phase) : (s.setPhase x).islands = s.islands := rfl
@[simp] theorem State.setPhase_diesel (s : State) (x : Phase) : (s.setPhase x).diesel = s.diesel := rfl
@[simp] theorem State.setPhase_gas (s : State) (x : Phase) : (s.setPhase x).gas = s.gas := rfl
@[simp] theorem State.setPhase_washes (s : State) (x : Phase) : (s.setPhase x).washes = s.washes := rfl
@[simp] theorem State.setPhase_lanes (s : State) (x : Phase) : (s.setPhase x).lanes = s.lanes := rfl
@[simp] theorem State.setPhase_roster (s : State) (x : Phase) : (s.setPhase x).roster = s.roster := rfl
@[simp] theorem State.setPhase_line (s : State) (x : Phase) : (s.setPhase x).line = s.line := rfl
@[simp] theorem State.setPhase_port (s : State) (x : Phase) : (s.setPhase x).port = s.port := rfl
@[simp] theorem State.setPhase_attention (s : State) (x : Phase) : (s.setPhase x).attention = s.attention := rfl
@[simp] theorem State.setPhase_pending (s : State) (x : Phase) : (s.setPhase x).pending = s.pending := rfl

/-! setTimes -/

@[simp] theorem State.setTimes_boot (s : State) (x : Times) : (s.setTimes x).boot = s.boot := rfl
@[simp] theorem State.setTimes_checkPassed (s : State) (x : Times) : (s.setTimes x).checkPassed = s.checkPassed := rfl
@[simp] theorem State.setTimes_phase (s : State) (x : Times) : (s.setTimes x).phase = s.phase := rfl
@[simp] theorem State.setTimes_times (s : State) (x : Times) : (s.setTimes x).times = x := rfl
@[simp] theorem State.setTimes_beams (s : State) (x : Times) : (s.setTimes x).beams = s.beams := rfl
@[simp] theorem State.setTimes_clock (s : State) (x : Times) : (s.setTimes x).clock = s.clock := rfl
@[simp] theorem State.setTimes_register (s : State) (x : Times) : (s.setTimes x).register = s.register := rfl
@[simp] theorem State.setTimes_cursor (s : State) (x : Times) : (s.setTimes x).cursor = s.cursor := rfl
@[simp] theorem State.setTimes_visits (s : State) (x : Times) : (s.setTimes x).visits = s.visits := rfl
@[simp] theorem State.setTimes_router (s : State) (x : Times) : (s.setTimes x).router = s.router := rfl
@[simp] theorem State.setTimes_islands (s : State) (x : Times) : (s.setTimes x).islands = s.islands := rfl
@[simp] theorem State.setTimes_diesel (s : State) (x : Times) : (s.setTimes x).diesel = s.diesel := rfl
@[simp] theorem State.setTimes_gas (s : State) (x : Times) : (s.setTimes x).gas = s.gas := rfl
@[simp] theorem State.setTimes_washes (s : State) (x : Times) : (s.setTimes x).washes = s.washes := rfl
@[simp] theorem State.setTimes_lanes (s : State) (x : Times) : (s.setTimes x).lanes = s.lanes := rfl
@[simp] theorem State.setTimes_roster (s : State) (x : Times) : (s.setTimes x).roster = s.roster := rfl
@[simp] theorem State.setTimes_line (s : State) (x : Times) : (s.setTimes x).line = s.line := rfl
@[simp] theorem State.setTimes_port (s : State) (x : Times) : (s.setTimes x).port = s.port := rfl
@[simp] theorem State.setTimes_attention (s : State) (x : Times) : (s.setTimes x).attention = s.attention := rfl
@[simp] theorem State.setTimes_pending (s : State) (x : Times) : (s.setTimes x).pending = s.pending := rfl

/-! setBeams -/

@[simp] theorem State.setBeams_boot (s : State) (x : Vector Beam 48) : (s.setBeams x).boot = s.boot := rfl
@[simp] theorem State.setBeams_checkPassed (s : State) (x : Vector Beam 48) : (s.setBeams x).checkPassed = s.checkPassed := rfl
@[simp] theorem State.setBeams_phase (s : State) (x : Vector Beam 48) : (s.setBeams x).phase = s.phase := rfl
@[simp] theorem State.setBeams_times (s : State) (x : Vector Beam 48) : (s.setBeams x).times = s.times := rfl
@[simp] theorem State.setBeams_beams (s : State) (x : Vector Beam 48) : (s.setBeams x).beams = x := rfl
@[simp] theorem State.setBeams_clock (s : State) (x : Vector Beam 48) : (s.setBeams x).clock = s.clock := rfl
@[simp] theorem State.setBeams_register (s : State) (x : Vector Beam 48) : (s.setBeams x).register = s.register := rfl
@[simp] theorem State.setBeams_cursor (s : State) (x : Vector Beam 48) : (s.setBeams x).cursor = s.cursor := rfl
@[simp] theorem State.setBeams_visits (s : State) (x : Vector Beam 48) : (s.setBeams x).visits = s.visits := rfl
@[simp] theorem State.setBeams_router (s : State) (x : Vector Beam 48) : (s.setBeams x).router = s.router := rfl
@[simp] theorem State.setBeams_islands (s : State) (x : Vector Beam 48) : (s.setBeams x).islands = s.islands := rfl
@[simp] theorem State.setBeams_diesel (s : State) (x : Vector Beam 48) : (s.setBeams x).diesel = s.diesel := rfl
@[simp] theorem State.setBeams_gas (s : State) (x : Vector Beam 48) : (s.setBeams x).gas = s.gas := rfl
@[simp] theorem State.setBeams_washes (s : State) (x : Vector Beam 48) : (s.setBeams x).washes = s.washes := rfl
@[simp] theorem State.setBeams_lanes (s : State) (x : Vector Beam 48) : (s.setBeams x).lanes = s.lanes := rfl
@[simp] theorem State.setBeams_roster (s : State) (x : Vector Beam 48) : (s.setBeams x).roster = s.roster := rfl
@[simp] theorem State.setBeams_line (s : State) (x : Vector Beam 48) : (s.setBeams x).line = s.line := rfl
@[simp] theorem State.setBeams_port (s : State) (x : Vector Beam 48) : (s.setBeams x).port = s.port := rfl
@[simp] theorem State.setBeams_attention (s : State) (x : Vector Beam 48) : (s.setBeams x).attention = s.attention := rfl
@[simp] theorem State.setBeams_pending (s : State) (x : Vector Beam 48) : (s.setBeams x).pending = s.pending := rfl

/-! setClock -/

@[simp] theorem State.setClock_boot (s : State) (x : Clock) : (s.setClock x).boot = s.boot := rfl
@[simp] theorem State.setClock_checkPassed (s : State) (x : Clock) : (s.setClock x).checkPassed = s.checkPassed := rfl
@[simp] theorem State.setClock_phase (s : State) (x : Clock) : (s.setClock x).phase = s.phase := rfl
@[simp] theorem State.setClock_times (s : State) (x : Clock) : (s.setClock x).times = s.times := rfl
@[simp] theorem State.setClock_beams (s : State) (x : Clock) : (s.setClock x).beams = s.beams := rfl
@[simp] theorem State.setClock_clock (s : State) (x : Clock) : (s.setClock x).clock = x := rfl
@[simp] theorem State.setClock_register (s : State) (x : Clock) : (s.setClock x).register = s.register := rfl
@[simp] theorem State.setClock_cursor (s : State) (x : Clock) : (s.setClock x).cursor = s.cursor := rfl
@[simp] theorem State.setClock_visits (s : State) (x : Clock) : (s.setClock x).visits = s.visits := rfl
@[simp] theorem State.setClock_router (s : State) (x : Clock) : (s.setClock x).router = s.router := rfl
@[simp] theorem State.setClock_islands (s : State) (x : Clock) : (s.setClock x).islands = s.islands := rfl
@[simp] theorem State.setClock_diesel (s : State) (x : Clock) : (s.setClock x).diesel = s.diesel := rfl
@[simp] theorem State.setClock_gas (s : State) (x : Clock) : (s.setClock x).gas = s.gas := rfl
@[simp] theorem State.setClock_washes (s : State) (x : Clock) : (s.setClock x).washes = s.washes := rfl
@[simp] theorem State.setClock_lanes (s : State) (x : Clock) : (s.setClock x).lanes = s.lanes := rfl
@[simp] theorem State.setClock_roster (s : State) (x : Clock) : (s.setClock x).roster = s.roster := rfl
@[simp] theorem State.setClock_line (s : State) (x : Clock) : (s.setClock x).line = s.line := rfl
@[simp] theorem State.setClock_port (s : State) (x : Clock) : (s.setClock x).port = s.port := rfl
@[simp] theorem State.setClock_attention (s : State) (x : Clock) : (s.setClock x).attention = s.attention := rfl
@[simp] theorem State.setClock_pending (s : State) (x : Clock) : (s.setClock x).pending = s.pending := rfl

/-! setRegister -/

@[simp] theorem State.setRegister_boot (s : State) (x : List Entry) : (s.setRegister x).boot = s.boot := rfl
@[simp] theorem State.setRegister_checkPassed (s : State) (x : List Entry) : (s.setRegister x).checkPassed = s.checkPassed := rfl
@[simp] theorem State.setRegister_phase (s : State) (x : List Entry) : (s.setRegister x).phase = s.phase := rfl
@[simp] theorem State.setRegister_times (s : State) (x : List Entry) : (s.setRegister x).times = s.times := rfl
@[simp] theorem State.setRegister_beams (s : State) (x : List Entry) : (s.setRegister x).beams = s.beams := rfl
@[simp] theorem State.setRegister_clock (s : State) (x : List Entry) : (s.setRegister x).clock = s.clock := rfl
@[simp] theorem State.setRegister_register (s : State) (x : List Entry) : (s.setRegister x).register = x := rfl
@[simp] theorem State.setRegister_cursor (s : State) (x : List Entry) : (s.setRegister x).cursor = s.cursor := rfl
@[simp] theorem State.setRegister_visits (s : State) (x : List Entry) : (s.setRegister x).visits = s.visits := rfl
@[simp] theorem State.setRegister_router (s : State) (x : List Entry) : (s.setRegister x).router = s.router := rfl
@[simp] theorem State.setRegister_islands (s : State) (x : List Entry) : (s.setRegister x).islands = s.islands := rfl
@[simp] theorem State.setRegister_diesel (s : State) (x : List Entry) : (s.setRegister x).diesel = s.diesel := rfl
@[simp] theorem State.setRegister_gas (s : State) (x : List Entry) : (s.setRegister x).gas = s.gas := rfl
@[simp] theorem State.setRegister_washes (s : State) (x : List Entry) : (s.setRegister x).washes = s.washes := rfl
@[simp] theorem State.setRegister_lanes (s : State) (x : List Entry) : (s.setRegister x).lanes = s.lanes := rfl
@[simp] theorem State.setRegister_roster (s : State) (x : List Entry) : (s.setRegister x).roster = s.roster := rfl
@[simp] theorem State.setRegister_line (s : State) (x : List Entry) : (s.setRegister x).line = s.line := rfl
@[simp] theorem State.setRegister_port (s : State) (x : List Entry) : (s.setRegister x).port = s.port := rfl
@[simp] theorem State.setRegister_attention (s : State) (x : List Entry) : (s.setRegister x).attention = s.attention := rfl
@[simp] theorem State.setRegister_pending (s : State) (x : List Entry) : (s.setRegister x).pending = s.pending := rfl

/-! setCursor -/

@[simp] theorem State.setCursor_boot (s : State) (x : Nat) : (s.setCursor x).boot = s.boot := rfl
@[simp] theorem State.setCursor_checkPassed (s : State) (x : Nat) : (s.setCursor x).checkPassed = s.checkPassed := rfl
@[simp] theorem State.setCursor_phase (s : State) (x : Nat) : (s.setCursor x).phase = s.phase := rfl
@[simp] theorem State.setCursor_times (s : State) (x : Nat) : (s.setCursor x).times = s.times := rfl
@[simp] theorem State.setCursor_beams (s : State) (x : Nat) : (s.setCursor x).beams = s.beams := rfl
@[simp] theorem State.setCursor_clock (s : State) (x : Nat) : (s.setCursor x).clock = s.clock := rfl
@[simp] theorem State.setCursor_register (s : State) (x : Nat) : (s.setCursor x).register = s.register := rfl
@[simp] theorem State.setCursor_cursor (s : State) (x : Nat) : (s.setCursor x).cursor = x := rfl
@[simp] theorem State.setCursor_visits (s : State) (x : Nat) : (s.setCursor x).visits = s.visits := rfl
@[simp] theorem State.setCursor_router (s : State) (x : Nat) : (s.setCursor x).router = s.router := rfl
@[simp] theorem State.setCursor_islands (s : State) (x : Nat) : (s.setCursor x).islands = s.islands := rfl
@[simp] theorem State.setCursor_diesel (s : State) (x : Nat) : (s.setCursor x).diesel = s.diesel := rfl
@[simp] theorem State.setCursor_gas (s : State) (x : Nat) : (s.setCursor x).gas = s.gas := rfl
@[simp] theorem State.setCursor_washes (s : State) (x : Nat) : (s.setCursor x).washes = s.washes := rfl
@[simp] theorem State.setCursor_lanes (s : State) (x : Nat) : (s.setCursor x).lanes = s.lanes := rfl
@[simp] theorem State.setCursor_roster (s : State) (x : Nat) : (s.setCursor x).roster = s.roster := rfl
@[simp] theorem State.setCursor_line (s : State) (x : Nat) : (s.setCursor x).line = s.line := rfl
@[simp] theorem State.setCursor_port (s : State) (x : Nat) : (s.setCursor x).port = s.port := rfl
@[simp] theorem State.setCursor_attention (s : State) (x : Nat) : (s.setCursor x).attention = s.attention := rfl
@[simp] theorem State.setCursor_pending (s : State) (x : Nat) : (s.setCursor x).pending = s.pending := rfl

/-! setVisits -/

@[simp] theorem State.setVisits_boot (s : State) (x : Vector (Option Visit) 128) : (s.setVisits x).boot = s.boot := rfl
@[simp] theorem State.setVisits_checkPassed (s : State) (x : Vector (Option Visit) 128) : (s.setVisits x).checkPassed = s.checkPassed := rfl
@[simp] theorem State.setVisits_phase (s : State) (x : Vector (Option Visit) 128) : (s.setVisits x).phase = s.phase := rfl
@[simp] theorem State.setVisits_times (s : State) (x : Vector (Option Visit) 128) : (s.setVisits x).times = s.times := rfl
@[simp] theorem State.setVisits_beams (s : State) (x : Vector (Option Visit) 128) : (s.setVisits x).beams = s.beams := rfl
@[simp] theorem State.setVisits_clock (s : State) (x : Vector (Option Visit) 128) : (s.setVisits x).clock = s.clock := rfl
@[simp] theorem State.setVisits_register (s : State) (x : Vector (Option Visit) 128) : (s.setVisits x).register = s.register := rfl
@[simp] theorem State.setVisits_cursor (s : State) (x : Vector (Option Visit) 128) : (s.setVisits x).cursor = s.cursor := rfl
@[simp] theorem State.setVisits_visits (s : State) (x : Vector (Option Visit) 128) : (s.setVisits x).visits = x := rfl
@[simp] theorem State.setVisits_router (s : State) (x : Vector (Option Visit) 128) : (s.setVisits x).router = s.router := rfl
@[simp] theorem State.setVisits_islands (s : State) (x : Vector (Option Visit) 128) : (s.setVisits x).islands = s.islands := rfl
@[simp] theorem State.setVisits_diesel (s : State) (x : Vector (Option Visit) 128) : (s.setVisits x).diesel = s.diesel := rfl
@[simp] theorem State.setVisits_gas (s : State) (x : Vector (Option Visit) 128) : (s.setVisits x).gas = s.gas := rfl
@[simp] theorem State.setVisits_washes (s : State) (x : Vector (Option Visit) 128) : (s.setVisits x).washes = s.washes := rfl
@[simp] theorem State.setVisits_lanes (s : State) (x : Vector (Option Visit) 128) : (s.setVisits x).lanes = s.lanes := rfl
@[simp] theorem State.setVisits_roster (s : State) (x : Vector (Option Visit) 128) : (s.setVisits x).roster = s.roster := rfl
@[simp] theorem State.setVisits_line (s : State) (x : Vector (Option Visit) 128) : (s.setVisits x).line = s.line := rfl
@[simp] theorem State.setVisits_port (s : State) (x : Vector (Option Visit) 128) : (s.setVisits x).port = s.port := rfl
@[simp] theorem State.setVisits_attention (s : State) (x : Vector (Option Visit) 128) : (s.setVisits x).attention = s.attention := rfl
@[simp] theorem State.setVisits_pending (s : State) (x : Vector (Option Visit) 128) : (s.setVisits x).pending = s.pending := rfl

/-! setRouter -/

@[simp] theorem State.setRouter_boot (s : State) (x : Router) : (s.setRouter x).boot = s.boot := rfl
@[simp] theorem State.setRouter_checkPassed (s : State) (x : Router) : (s.setRouter x).checkPassed = s.checkPassed := rfl
@[simp] theorem State.setRouter_phase (s : State) (x : Router) : (s.setRouter x).phase = s.phase := rfl
@[simp] theorem State.setRouter_times (s : State) (x : Router) : (s.setRouter x).times = s.times := rfl
@[simp] theorem State.setRouter_beams (s : State) (x : Router) : (s.setRouter x).beams = s.beams := rfl
@[simp] theorem State.setRouter_clock (s : State) (x : Router) : (s.setRouter x).clock = s.clock := rfl
@[simp] theorem State.setRouter_register (s : State) (x : Router) : (s.setRouter x).register = s.register := rfl
@[simp] theorem State.setRouter_cursor (s : State) (x : Router) : (s.setRouter x).cursor = s.cursor := rfl
@[simp] theorem State.setRouter_visits (s : State) (x : Router) : (s.setRouter x).visits = s.visits := rfl
@[simp] theorem State.setRouter_router (s : State) (x : Router) : (s.setRouter x).router = x := rfl
@[simp] theorem State.setRouter_islands (s : State) (x : Router) : (s.setRouter x).islands = s.islands := rfl
@[simp] theorem State.setRouter_diesel (s : State) (x : Router) : (s.setRouter x).diesel = s.diesel := rfl
@[simp] theorem State.setRouter_gas (s : State) (x : Router) : (s.setRouter x).gas = s.gas := rfl
@[simp] theorem State.setRouter_washes (s : State) (x : Router) : (s.setRouter x).washes = s.washes := rfl
@[simp] theorem State.setRouter_lanes (s : State) (x : Router) : (s.setRouter x).lanes = s.lanes := rfl
@[simp] theorem State.setRouter_roster (s : State) (x : Router) : (s.setRouter x).roster = s.roster := rfl
@[simp] theorem State.setRouter_line (s : State) (x : Router) : (s.setRouter x).line = s.line := rfl
@[simp] theorem State.setRouter_port (s : State) (x : Router) : (s.setRouter x).port = s.port := rfl
@[simp] theorem State.setRouter_attention (s : State) (x : Router) : (s.setRouter x).attention = s.attention := rfl
@[simp] theorem State.setRouter_pending (s : State) (x : Router) : (s.setRouter x).pending = s.pending := rfl

/-! setIslands -/

@[simp] theorem State.setIslands_boot (s : State) (x : Vector (Option Island) 6) : (s.setIslands x).boot = s.boot := rfl
@[simp] theorem State.setIslands_checkPassed (s : State) (x : Vector (Option Island) 6) : (s.setIslands x).checkPassed = s.checkPassed := rfl
@[simp] theorem State.setIslands_phase (s : State) (x : Vector (Option Island) 6) : (s.setIslands x).phase = s.phase := rfl
@[simp] theorem State.setIslands_times (s : State) (x : Vector (Option Island) 6) : (s.setIslands x).times = s.times := rfl
@[simp] theorem State.setIslands_beams (s : State) (x : Vector (Option Island) 6) : (s.setIslands x).beams = s.beams := rfl
@[simp] theorem State.setIslands_clock (s : State) (x : Vector (Option Island) 6) : (s.setIslands x).clock = s.clock := rfl
@[simp] theorem State.setIslands_register (s : State) (x : Vector (Option Island) 6) : (s.setIslands x).register = s.register := rfl
@[simp] theorem State.setIslands_cursor (s : State) (x : Vector (Option Island) 6) : (s.setIslands x).cursor = s.cursor := rfl
@[simp] theorem State.setIslands_visits (s : State) (x : Vector (Option Island) 6) : (s.setIslands x).visits = s.visits := rfl
@[simp] theorem State.setIslands_router (s : State) (x : Vector (Option Island) 6) : (s.setIslands x).router = s.router := rfl
@[simp] theorem State.setIslands_islands (s : State) (x : Vector (Option Island) 6) : (s.setIslands x).islands = x := rfl
@[simp] theorem State.setIslands_diesel (s : State) (x : Vector (Option Island) 6) : (s.setIslands x).diesel = s.diesel := rfl
@[simp] theorem State.setIslands_gas (s : State) (x : Vector (Option Island) 6) : (s.setIslands x).gas = s.gas := rfl
@[simp] theorem State.setIslands_washes (s : State) (x : Vector (Option Island) 6) : (s.setIslands x).washes = s.washes := rfl
@[simp] theorem State.setIslands_lanes (s : State) (x : Vector (Option Island) 6) : (s.setIslands x).lanes = s.lanes := rfl
@[simp] theorem State.setIslands_roster (s : State) (x : Vector (Option Island) 6) : (s.setIslands x).roster = s.roster := rfl
@[simp] theorem State.setIslands_line (s : State) (x : Vector (Option Island) 6) : (s.setIslands x).line = s.line := rfl
@[simp] theorem State.setIslands_port (s : State) (x : Vector (Option Island) 6) : (s.setIslands x).port = s.port := rfl
@[simp] theorem State.setIslands_attention (s : State) (x : Vector (Option Island) 6) : (s.setIslands x).attention = s.attention := rfl
@[simp] theorem State.setIslands_pending (s : State) (x : Vector (Option Island) 6) : (s.setIslands x).pending = s.pending := rfl

/-! setDiesel -/

@[simp] theorem State.setDiesel_boot (s : State) (x : Tank) : (s.setDiesel x).boot = s.boot := rfl
@[simp] theorem State.setDiesel_checkPassed (s : State) (x : Tank) : (s.setDiesel x).checkPassed = s.checkPassed := rfl
@[simp] theorem State.setDiesel_phase (s : State) (x : Tank) : (s.setDiesel x).phase = s.phase := rfl
@[simp] theorem State.setDiesel_times (s : State) (x : Tank) : (s.setDiesel x).times = s.times := rfl
@[simp] theorem State.setDiesel_beams (s : State) (x : Tank) : (s.setDiesel x).beams = s.beams := rfl
@[simp] theorem State.setDiesel_clock (s : State) (x : Tank) : (s.setDiesel x).clock = s.clock := rfl
@[simp] theorem State.setDiesel_register (s : State) (x : Tank) : (s.setDiesel x).register = s.register := rfl
@[simp] theorem State.setDiesel_cursor (s : State) (x : Tank) : (s.setDiesel x).cursor = s.cursor := rfl
@[simp] theorem State.setDiesel_visits (s : State) (x : Tank) : (s.setDiesel x).visits = s.visits := rfl
@[simp] theorem State.setDiesel_router (s : State) (x : Tank) : (s.setDiesel x).router = s.router := rfl
@[simp] theorem State.setDiesel_islands (s : State) (x : Tank) : (s.setDiesel x).islands = s.islands := rfl
@[simp] theorem State.setDiesel_diesel (s : State) (x : Tank) : (s.setDiesel x).diesel = x := rfl
@[simp] theorem State.setDiesel_gas (s : State) (x : Tank) : (s.setDiesel x).gas = s.gas := rfl
@[simp] theorem State.setDiesel_washes (s : State) (x : Tank) : (s.setDiesel x).washes = s.washes := rfl
@[simp] theorem State.setDiesel_lanes (s : State) (x : Tank) : (s.setDiesel x).lanes = s.lanes := rfl
@[simp] theorem State.setDiesel_roster (s : State) (x : Tank) : (s.setDiesel x).roster = s.roster := rfl
@[simp] theorem State.setDiesel_line (s : State) (x : Tank) : (s.setDiesel x).line = s.line := rfl
@[simp] theorem State.setDiesel_port (s : State) (x : Tank) : (s.setDiesel x).port = s.port := rfl
@[simp] theorem State.setDiesel_attention (s : State) (x : Tank) : (s.setDiesel x).attention = s.attention := rfl
@[simp] theorem State.setDiesel_pending (s : State) (x : Tank) : (s.setDiesel x).pending = s.pending := rfl

/-! setGas -/

@[simp] theorem State.setGas_boot (s : State) (x : Tank) : (s.setGas x).boot = s.boot := rfl
@[simp] theorem State.setGas_checkPassed (s : State) (x : Tank) : (s.setGas x).checkPassed = s.checkPassed := rfl
@[simp] theorem State.setGas_phase (s : State) (x : Tank) : (s.setGas x).phase = s.phase := rfl
@[simp] theorem State.setGas_times (s : State) (x : Tank) : (s.setGas x).times = s.times := rfl
@[simp] theorem State.setGas_beams (s : State) (x : Tank) : (s.setGas x).beams = s.beams := rfl
@[simp] theorem State.setGas_clock (s : State) (x : Tank) : (s.setGas x).clock = s.clock := rfl
@[simp] theorem State.setGas_register (s : State) (x : Tank) : (s.setGas x).register = s.register := rfl
@[simp] theorem State.setGas_cursor (s : State) (x : Tank) : (s.setGas x).cursor = s.cursor := rfl
@[simp] theorem State.setGas_visits (s : State) (x : Tank) : (s.setGas x).visits = s.visits := rfl
@[simp] theorem State.setGas_router (s : State) (x : Tank) : (s.setGas x).router = s.router := rfl
@[simp] theorem State.setGas_islands (s : State) (x : Tank) : (s.setGas x).islands = s.islands := rfl
@[simp] theorem State.setGas_diesel (s : State) (x : Tank) : (s.setGas x).diesel = s.diesel := rfl
@[simp] theorem State.setGas_gas (s : State) (x : Tank) : (s.setGas x).gas = x := rfl
@[simp] theorem State.setGas_washes (s : State) (x : Tank) : (s.setGas x).washes = s.washes := rfl
@[simp] theorem State.setGas_lanes (s : State) (x : Tank) : (s.setGas x).lanes = s.lanes := rfl
@[simp] theorem State.setGas_roster (s : State) (x : Tank) : (s.setGas x).roster = s.roster := rfl
@[simp] theorem State.setGas_line (s : State) (x : Tank) : (s.setGas x).line = s.line := rfl
@[simp] theorem State.setGas_port (s : State) (x : Tank) : (s.setGas x).port = s.port := rfl
@[simp] theorem State.setGas_attention (s : State) (x : Tank) : (s.setGas x).attention = s.attention := rfl
@[simp] theorem State.setGas_pending (s : State) (x : Tank) : (s.setGas x).pending = s.pending := rfl

/-! setWashes -/

@[simp] theorem State.setWashes_boot (s : State) (x : Vector (Option WashLane) 3) : (s.setWashes x).boot = s.boot := rfl
@[simp] theorem State.setWashes_checkPassed (s : State) (x : Vector (Option WashLane) 3) : (s.setWashes x).checkPassed = s.checkPassed := rfl
@[simp] theorem State.setWashes_phase (s : State) (x : Vector (Option WashLane) 3) : (s.setWashes x).phase = s.phase := rfl
@[simp] theorem State.setWashes_times (s : State) (x : Vector (Option WashLane) 3) : (s.setWashes x).times = s.times := rfl
@[simp] theorem State.setWashes_beams (s : State) (x : Vector (Option WashLane) 3) : (s.setWashes x).beams = s.beams := rfl
@[simp] theorem State.setWashes_clock (s : State) (x : Vector (Option WashLane) 3) : (s.setWashes x).clock = s.clock := rfl
@[simp] theorem State.setWashes_register (s : State) (x : Vector (Option WashLane) 3) : (s.setWashes x).register = s.register := rfl
@[simp] theorem State.setWashes_cursor (s : State) (x : Vector (Option WashLane) 3) : (s.setWashes x).cursor = s.cursor := rfl
@[simp] theorem State.setWashes_visits (s : State) (x : Vector (Option WashLane) 3) : (s.setWashes x).visits = s.visits := rfl
@[simp] theorem State.setWashes_router (s : State) (x : Vector (Option WashLane) 3) : (s.setWashes x).router = s.router := rfl
@[simp] theorem State.setWashes_islands (s : State) (x : Vector (Option WashLane) 3) : (s.setWashes x).islands = s.islands := rfl
@[simp] theorem State.setWashes_diesel (s : State) (x : Vector (Option WashLane) 3) : (s.setWashes x).diesel = s.diesel := rfl
@[simp] theorem State.setWashes_gas (s : State) (x : Vector (Option WashLane) 3) : (s.setWashes x).gas = s.gas := rfl
@[simp] theorem State.setWashes_washes (s : State) (x : Vector (Option WashLane) 3) : (s.setWashes x).washes = x := rfl
@[simp] theorem State.setWashes_lanes (s : State) (x : Vector (Option WashLane) 3) : (s.setWashes x).lanes = s.lanes := rfl
@[simp] theorem State.setWashes_roster (s : State) (x : Vector (Option WashLane) 3) : (s.setWashes x).roster = s.roster := rfl
@[simp] theorem State.setWashes_line (s : State) (x : Vector (Option WashLane) 3) : (s.setWashes x).line = s.line := rfl
@[simp] theorem State.setWashes_port (s : State) (x : Vector (Option WashLane) 3) : (s.setWashes x).port = s.port := rfl
@[simp] theorem State.setWashes_attention (s : State) (x : Vector (Option WashLane) 3) : (s.setWashes x).attention = s.attention := rfl
@[simp] theorem State.setWashes_pending (s : State) (x : Vector (Option WashLane) 3) : (s.setWashes x).pending = s.pending := rfl

/-! setLanes -/

@[simp] theorem State.setLanes_boot (s : State) (x : Vector (Option Lane) 20) : (s.setLanes x).boot = s.boot := rfl
@[simp] theorem State.setLanes_checkPassed (s : State) (x : Vector (Option Lane) 20) : (s.setLanes x).checkPassed = s.checkPassed := rfl
@[simp] theorem State.setLanes_phase (s : State) (x : Vector (Option Lane) 20) : (s.setLanes x).phase = s.phase := rfl
@[simp] theorem State.setLanes_times (s : State) (x : Vector (Option Lane) 20) : (s.setLanes x).times = s.times := rfl
@[simp] theorem State.setLanes_beams (s : State) (x : Vector (Option Lane) 20) : (s.setLanes x).beams = s.beams := rfl
@[simp] theorem State.setLanes_clock (s : State) (x : Vector (Option Lane) 20) : (s.setLanes x).clock = s.clock := rfl
@[simp] theorem State.setLanes_register (s : State) (x : Vector (Option Lane) 20) : (s.setLanes x).register = s.register := rfl
@[simp] theorem State.setLanes_cursor (s : State) (x : Vector (Option Lane) 20) : (s.setLanes x).cursor = s.cursor := rfl
@[simp] theorem State.setLanes_visits (s : State) (x : Vector (Option Lane) 20) : (s.setLanes x).visits = s.visits := rfl
@[simp] theorem State.setLanes_router (s : State) (x : Vector (Option Lane) 20) : (s.setLanes x).router = s.router := rfl
@[simp] theorem State.setLanes_islands (s : State) (x : Vector (Option Lane) 20) : (s.setLanes x).islands = s.islands := rfl
@[simp] theorem State.setLanes_diesel (s : State) (x : Vector (Option Lane) 20) : (s.setLanes x).diesel = s.diesel := rfl
@[simp] theorem State.setLanes_gas (s : State) (x : Vector (Option Lane) 20) : (s.setLanes x).gas = s.gas := rfl
@[simp] theorem State.setLanes_washes (s : State) (x : Vector (Option Lane) 20) : (s.setLanes x).washes = s.washes := rfl
@[simp] theorem State.setLanes_lanes (s : State) (x : Vector (Option Lane) 20) : (s.setLanes x).lanes = x := rfl
@[simp] theorem State.setLanes_roster (s : State) (x : Vector (Option Lane) 20) : (s.setLanes x).roster = s.roster := rfl
@[simp] theorem State.setLanes_line (s : State) (x : Vector (Option Lane) 20) : (s.setLanes x).line = s.line := rfl
@[simp] theorem State.setLanes_port (s : State) (x : Vector (Option Lane) 20) : (s.setLanes x).port = s.port := rfl
@[simp] theorem State.setLanes_attention (s : State) (x : Vector (Option Lane) 20) : (s.setLanes x).attention = s.attention := rfl
@[simp] theorem State.setLanes_pending (s : State) (x : Vector (Option Lane) 20) : (s.setLanes x).pending = s.pending := rfl

/-! setRoster -/

@[simp] theorem State.setRoster_boot (s : State) (x : Roster) : (s.setRoster x).boot = s.boot := rfl
@[simp] theorem State.setRoster_checkPassed (s : State) (x : Roster) : (s.setRoster x).checkPassed = s.checkPassed := rfl
@[simp] theorem State.setRoster_phase (s : State) (x : Roster) : (s.setRoster x).phase = s.phase := rfl
@[simp] theorem State.setRoster_times (s : State) (x : Roster) : (s.setRoster x).times = s.times := rfl
@[simp] theorem State.setRoster_beams (s : State) (x : Roster) : (s.setRoster x).beams = s.beams := rfl
@[simp] theorem State.setRoster_clock (s : State) (x : Roster) : (s.setRoster x).clock = s.clock := rfl
@[simp] theorem State.setRoster_register (s : State) (x : Roster) : (s.setRoster x).register = s.register := rfl
@[simp] theorem State.setRoster_cursor (s : State) (x : Roster) : (s.setRoster x).cursor = s.cursor := rfl
@[simp] theorem State.setRoster_visits (s : State) (x : Roster) : (s.setRoster x).visits = s.visits := rfl
@[simp] theorem State.setRoster_router (s : State) (x : Roster) : (s.setRoster x).router = s.router := rfl
@[simp] theorem State.setRoster_islands (s : State) (x : Roster) : (s.setRoster x).islands = s.islands := rfl
@[simp] theorem State.setRoster_diesel (s : State) (x : Roster) : (s.setRoster x).diesel = s.diesel := rfl
@[simp] theorem State.setRoster_gas (s : State) (x : Roster) : (s.setRoster x).gas = s.gas := rfl
@[simp] theorem State.setRoster_washes (s : State) (x : Roster) : (s.setRoster x).washes = s.washes := rfl
@[simp] theorem State.setRoster_lanes (s : State) (x : Roster) : (s.setRoster x).lanes = s.lanes := rfl
@[simp] theorem State.setRoster_roster (s : State) (x : Roster) : (s.setRoster x).roster = x := rfl
@[simp] theorem State.setRoster_line (s : State) (x : Roster) : (s.setRoster x).line = s.line := rfl
@[simp] theorem State.setRoster_port (s : State) (x : Roster) : (s.setRoster x).port = s.port := rfl
@[simp] theorem State.setRoster_attention (s : State) (x : Roster) : (s.setRoster x).attention = s.attention := rfl
@[simp] theorem State.setRoster_pending (s : State) (x : Roster) : (s.setRoster x).pending = s.pending := rfl

/-! setLine -/

@[simp] theorem State.setLine_boot (s : State) (x : Line) : (s.setLine x).boot = s.boot := rfl
@[simp] theorem State.setLine_checkPassed (s : State) (x : Line) : (s.setLine x).checkPassed = s.checkPassed := rfl
@[simp] theorem State.setLine_phase (s : State) (x : Line) : (s.setLine x).phase = s.phase := rfl
@[simp] theorem State.setLine_times (s : State) (x : Line) : (s.setLine x).times = s.times := rfl
@[simp] theorem State.setLine_beams (s : State) (x : Line) : (s.setLine x).beams = s.beams := rfl
@[simp] theorem State.setLine_clock (s : State) (x : Line) : (s.setLine x).clock = s.clock := rfl
@[simp] theorem State.setLine_register (s : State) (x : Line) : (s.setLine x).register = s.register := rfl
@[simp] theorem State.setLine_cursor (s : State) (x : Line) : (s.setLine x).cursor = s.cursor := rfl
@[simp] theorem State.setLine_visits (s : State) (x : Line) : (s.setLine x).visits = s.visits := rfl
@[simp] theorem State.setLine_router (s : State) (x : Line) : (s.setLine x).router = s.router := rfl
@[simp] theorem State.setLine_islands (s : State) (x : Line) : (s.setLine x).islands = s.islands := rfl
@[simp] theorem State.setLine_diesel (s : State) (x : Line) : (s.setLine x).diesel = s.diesel := rfl
@[simp] theorem State.setLine_gas (s : State) (x : Line) : (s.setLine x).gas = s.gas := rfl
@[simp] theorem State.setLine_washes (s : State) (x : Line) : (s.setLine x).washes = s.washes := rfl
@[simp] theorem State.setLine_lanes (s : State) (x : Line) : (s.setLine x).lanes = s.lanes := rfl
@[simp] theorem State.setLine_roster (s : State) (x : Line) : (s.setLine x).roster = s.roster := rfl
@[simp] theorem State.setLine_line (s : State) (x : Line) : (s.setLine x).line = x := rfl
@[simp] theorem State.setLine_port (s : State) (x : Line) : (s.setLine x).port = s.port := rfl
@[simp] theorem State.setLine_attention (s : State) (x : Line) : (s.setLine x).attention = s.attention := rfl
@[simp] theorem State.setLine_pending (s : State) (x : Line) : (s.setLine x).pending = s.pending := rfl

/-! setPort -/

@[simp] theorem State.setPort_boot (s : State) (x : Port) : (s.setPort x).boot = s.boot := rfl
@[simp] theorem State.setPort_checkPassed (s : State) (x : Port) : (s.setPort x).checkPassed = s.checkPassed := rfl
@[simp] theorem State.setPort_phase (s : State) (x : Port) : (s.setPort x).phase = s.phase := rfl
@[simp] theorem State.setPort_times (s : State) (x : Port) : (s.setPort x).times = s.times := rfl
@[simp] theorem State.setPort_beams (s : State) (x : Port) : (s.setPort x).beams = s.beams := rfl
@[simp] theorem State.setPort_clock (s : State) (x : Port) : (s.setPort x).clock = s.clock := rfl
@[simp] theorem State.setPort_register (s : State) (x : Port) : (s.setPort x).register = s.register := rfl
@[simp] theorem State.setPort_cursor (s : State) (x : Port) : (s.setPort x).cursor = s.cursor := rfl
@[simp] theorem State.setPort_visits (s : State) (x : Port) : (s.setPort x).visits = s.visits := rfl
@[simp] theorem State.setPort_router (s : State) (x : Port) : (s.setPort x).router = s.router := rfl
@[simp] theorem State.setPort_islands (s : State) (x : Port) : (s.setPort x).islands = s.islands := rfl
@[simp] theorem State.setPort_diesel (s : State) (x : Port) : (s.setPort x).diesel = s.diesel := rfl
@[simp] theorem State.setPort_gas (s : State) (x : Port) : (s.setPort x).gas = s.gas := rfl
@[simp] theorem State.setPort_washes (s : State) (x : Port) : (s.setPort x).washes = s.washes := rfl
@[simp] theorem State.setPort_lanes (s : State) (x : Port) : (s.setPort x).lanes = s.lanes := rfl
@[simp] theorem State.setPort_roster (s : State) (x : Port) : (s.setPort x).roster = s.roster := rfl
@[simp] theorem State.setPort_line (s : State) (x : Port) : (s.setPort x).line = s.line := rfl
@[simp] theorem State.setPort_port (s : State) (x : Port) : (s.setPort x).port = x := rfl
@[simp] theorem State.setPort_attention (s : State) (x : Port) : (s.setPort x).attention = s.attention := rfl
@[simp] theorem State.setPort_pending (s : State) (x : Port) : (s.setPort x).pending = s.pending := rfl

/-! setAttention -/

@[simp] theorem State.setAttention_boot (s : State) (x : Attention) : (s.setAttention x).boot = s.boot := rfl
@[simp] theorem State.setAttention_checkPassed (s : State) (x : Attention) : (s.setAttention x).checkPassed = s.checkPassed := rfl
@[simp] theorem State.setAttention_phase (s : State) (x : Attention) : (s.setAttention x).phase = s.phase := rfl
@[simp] theorem State.setAttention_times (s : State) (x : Attention) : (s.setAttention x).times = s.times := rfl
@[simp] theorem State.setAttention_beams (s : State) (x : Attention) : (s.setAttention x).beams = s.beams := rfl
@[simp] theorem State.setAttention_clock (s : State) (x : Attention) : (s.setAttention x).clock = s.clock := rfl
@[simp] theorem State.setAttention_register (s : State) (x : Attention) : (s.setAttention x).register = s.register := rfl
@[simp] theorem State.setAttention_cursor (s : State) (x : Attention) : (s.setAttention x).cursor = s.cursor := rfl
@[simp] theorem State.setAttention_visits (s : State) (x : Attention) : (s.setAttention x).visits = s.visits := rfl
@[simp] theorem State.setAttention_router (s : State) (x : Attention) : (s.setAttention x).router = s.router := rfl
@[simp] theorem State.setAttention_islands (s : State) (x : Attention) : (s.setAttention x).islands = s.islands := rfl
@[simp] theorem State.setAttention_diesel (s : State) (x : Attention) : (s.setAttention x).diesel = s.diesel := rfl
@[simp] theorem State.setAttention_gas (s : State) (x : Attention) : (s.setAttention x).gas = s.gas := rfl
@[simp] theorem State.setAttention_washes (s : State) (x : Attention) : (s.setAttention x).washes = s.washes := rfl
@[simp] theorem State.setAttention_lanes (s : State) (x : Attention) : (s.setAttention x).lanes = s.lanes := rfl
@[simp] theorem State.setAttention_roster (s : State) (x : Attention) : (s.setAttention x).roster = s.roster := rfl
@[simp] theorem State.setAttention_line (s : State) (x : Attention) : (s.setAttention x).line = s.line := rfl
@[simp] theorem State.setAttention_port (s : State) (x : Attention) : (s.setAttention x).port = s.port := rfl
@[simp] theorem State.setAttention_attention (s : State) (x : Attention) : (s.setAttention x).attention = x := rfl
@[simp] theorem State.setAttention_pending (s : State) (x : Attention) : (s.setAttention x).pending = s.pending := rfl

/-! setStations -/

@[simp] theorem State.setStations_boot (s : State) (x : Vector (Option Station) 16) :
    (s.setStations x).boot = s.boot := rfl
@[simp] theorem State.setStations_checkPassed (s : State) (x : Vector (Option Station) 16) :
    (s.setStations x).checkPassed = s.checkPassed := rfl
@[simp] theorem State.setStations_phase (s : State) (x : Vector (Option Station) 16) :
    (s.setStations x).phase = s.phase := rfl
@[simp] theorem State.setStations_times (s : State) (x : Vector (Option Station) 16) :
    (s.setStations x).times = s.times := rfl
@[simp] theorem State.setStations_beams (s : State) (x : Vector (Option Station) 16) :
    (s.setStations x).beams = s.beams := rfl
@[simp] theorem State.setStations_clock (s : State) (x : Vector (Option Station) 16) :
    (s.setStations x).clock = s.clock := rfl
@[simp] theorem State.setStations_register (s : State) (x : Vector (Option Station) 16) :
    (s.setStations x).register = s.register := rfl
@[simp] theorem State.setStations_cursor (s : State) (x : Vector (Option Station) 16) :
    (s.setStations x).cursor = s.cursor := rfl
@[simp] theorem State.setStations_visits (s : State) (x : Vector (Option Station) 16) :
    (s.setStations x).visits = s.visits := rfl
@[simp] theorem State.setStations_router (s : State) (x : Vector (Option Station) 16) :
    (s.setStations x).router = s.router := rfl
@[simp] theorem State.setStations_islands (s : State) (x : Vector (Option Station) 16) :
    (s.setStations x).islands = s.islands := rfl
@[simp] theorem State.setStations_diesel (s : State) (x : Vector (Option Station) 16) :
    (s.setStations x).diesel = s.diesel := rfl
@[simp] theorem State.setStations_gas (s : State) (x : Vector (Option Station) 16) :
    (s.setStations x).gas = s.gas := rfl
@[simp] theorem State.setStations_washes (s : State) (x : Vector (Option Station) 16) :
    (s.setStations x).washes = s.washes := rfl
@[simp] theorem State.setStations_lanes (s : State) (x : Vector (Option Station) 16) :
    (s.setStations x).lanes = s.lanes := rfl
@[simp] theorem State.setStations_roster (s : State) (x : Vector (Option Station) 16) :
    (s.setStations x).roster = s.roster := rfl
@[simp] theorem State.setStations_line (s : State) (x : Vector (Option Station) 16) :
    (s.setStations x).line = { s.line with stations := x } := rfl
@[simp] theorem State.setStations_port (s : State) (x : Vector (Option Station) 16) :
    (s.setStations x).port = s.port := rfl
@[simp] theorem State.setStations_attention (s : State) (x : Vector (Option Station) 16) :
    (s.setStations x).attention = s.attention := rfl
@[simp] theorem State.setStations_pending (s : State) (x : Vector (Option Station) 16) :
    (s.setStations x).pending = s.pending := rfl

/-! setDuties -/

@[simp] theorem State.setDuties_boot (s : State) (x : List Duty) :
    (s.setDuties x).boot = s.boot := rfl
@[simp] theorem State.setDuties_checkPassed (s : State) (x : List Duty) :
    (s.setDuties x).checkPassed = s.checkPassed := rfl
@[simp] theorem State.setDuties_phase (s : State) (x : List Duty) :
    (s.setDuties x).phase = s.phase := rfl
@[simp] theorem State.setDuties_times (s : State) (x : List Duty) :
    (s.setDuties x).times = s.times := rfl
@[simp] theorem State.setDuties_beams (s : State) (x : List Duty) :
    (s.setDuties x).beams = s.beams := rfl
@[simp] theorem State.setDuties_clock (s : State) (x : List Duty) :
    (s.setDuties x).clock = s.clock := rfl
@[simp] theorem State.setDuties_register (s : State) (x : List Duty) :
    (s.setDuties x).register = s.register := rfl
@[simp] theorem State.setDuties_cursor (s : State) (x : List Duty) :
    (s.setDuties x).cursor = s.cursor := rfl
@[simp] theorem State.setDuties_visits (s : State) (x : List Duty) :
    (s.setDuties x).visits = s.visits := rfl
@[simp] theorem State.setDuties_router (s : State) (x : List Duty) :
    (s.setDuties x).router = s.router := rfl
@[simp] theorem State.setDuties_islands (s : State) (x : List Duty) :
    (s.setDuties x).islands = s.islands := rfl
@[simp] theorem State.setDuties_diesel (s : State) (x : List Duty) :
    (s.setDuties x).diesel = s.diesel := rfl
@[simp] theorem State.setDuties_gas (s : State) (x : List Duty) :
    (s.setDuties x).gas = s.gas := rfl
@[simp] theorem State.setDuties_washes (s : State) (x : List Duty) :
    (s.setDuties x).washes = s.washes := rfl
@[simp] theorem State.setDuties_lanes (s : State) (x : List Duty) :
    (s.setDuties x).lanes = s.lanes := rfl
@[simp] theorem State.setDuties_roster (s : State) (x : List Duty) :
    (s.setDuties x).roster = { s.roster with duties := x } := rfl
@[simp] theorem State.setDuties_line (s : State) (x : List Duty) :
    (s.setDuties x).line = s.line := rfl
@[simp] theorem State.setDuties_port (s : State) (x : List Duty) :
    (s.setDuties x).port = s.port := rfl
@[simp] theorem State.setDuties_attention (s : State) (x : List Duty) :
    (s.setDuties x).attention = s.attention := rfl
@[simp] theorem State.setDuties_pending (s : State) (x : List Duty) :
    (s.setDuties x).pending = s.pending := rfl

/-! setPlan -/

@[simp] theorem State.setPlan_boot (s : State) (x : Plan) :
    (s.setPlan x).boot = s.boot := rfl
@[simp] theorem State.setPlan_checkPassed (s : State) (x : Plan) :
    (s.setPlan x).checkPassed = s.checkPassed := rfl
@[simp] theorem State.setPlan_phase (s : State) (x : Plan) :
    (s.setPlan x).phase = s.phase := rfl
@[simp] theorem State.setPlan_times (s : State) (x : Plan) :
    (s.setPlan x).times = s.times := rfl
@[simp] theorem State.setPlan_beams (s : State) (x : Plan) :
    (s.setPlan x).beams = s.beams := rfl
@[simp] theorem State.setPlan_clock (s : State) (x : Plan) :
    (s.setPlan x).clock = s.clock := rfl
@[simp] theorem State.setPlan_register (s : State) (x : Plan) :
    (s.setPlan x).register = s.register := rfl
@[simp] theorem State.setPlan_cursor (s : State) (x : Plan) :
    (s.setPlan x).cursor = s.cursor := rfl
@[simp] theorem State.setPlan_visits (s : State) (x : Plan) :
    (s.setPlan x).visits = s.visits := rfl
@[simp] theorem State.setPlan_router (s : State) (x : Plan) :
    (s.setPlan x).router = s.router := rfl
@[simp] theorem State.setPlan_islands (s : State) (x : Plan) :
    (s.setPlan x).islands = s.islands := rfl
@[simp] theorem State.setPlan_diesel (s : State) (x : Plan) :
    (s.setPlan x).diesel = s.diesel := rfl
@[simp] theorem State.setPlan_gas (s : State) (x : Plan) :
    (s.setPlan x).gas = s.gas := rfl
@[simp] theorem State.setPlan_washes (s : State) (x : Plan) :
    (s.setPlan x).washes = s.washes := rfl
@[simp] theorem State.setPlan_lanes (s : State) (x : Plan) :
    (s.setPlan x).lanes = s.lanes := rfl
@[simp] theorem State.setPlan_roster (s : State) (x : Plan) :
    (s.setPlan x).roster = { s.roster with plan := x } := rfl
@[simp] theorem State.setPlan_line (s : State) (x : Plan) :
    (s.setPlan x).line = s.line := rfl
@[simp] theorem State.setPlan_port (s : State) (x : Plan) :
    (s.setPlan x).port = s.port := rfl
@[simp] theorem State.setPlan_attention (s : State) (x : Plan) :
    (s.setPlan x).attention = s.attention := rfl
@[simp] theorem State.setPlan_pending (s : State) (x : Plan) :
    (s.setPlan x).pending = s.pending := rfl

/-! setRosterState -/

@[simp] theorem State.setRosterState_boot (s : State) (x : RosterState) :
    (s.setRosterState x).boot = s.boot := rfl
@[simp] theorem State.setRosterState_checkPassed (s : State) (x : RosterState) :
    (s.setRosterState x).checkPassed = s.checkPassed := rfl
@[simp] theorem State.setRosterState_phase (s : State) (x : RosterState) :
    (s.setRosterState x).phase = s.phase := rfl
@[simp] theorem State.setRosterState_times (s : State) (x : RosterState) :
    (s.setRosterState x).times = s.times := rfl
@[simp] theorem State.setRosterState_beams (s : State) (x : RosterState) :
    (s.setRosterState x).beams = s.beams := rfl
@[simp] theorem State.setRosterState_clock (s : State) (x : RosterState) :
    (s.setRosterState x).clock = s.clock := rfl
@[simp] theorem State.setRosterState_register (s : State) (x : RosterState) :
    (s.setRosterState x).register = s.register := rfl
@[simp] theorem State.setRosterState_cursor (s : State) (x : RosterState) :
    (s.setRosterState x).cursor = s.cursor := rfl
@[simp] theorem State.setRosterState_visits (s : State) (x : RosterState) :
    (s.setRosterState x).visits = s.visits := rfl
@[simp] theorem State.setRosterState_router (s : State) (x : RosterState) :
    (s.setRosterState x).router = s.router := rfl
@[simp] theorem State.setRosterState_islands (s : State) (x : RosterState) :
    (s.setRosterState x).islands = s.islands := rfl
@[simp] theorem State.setRosterState_diesel (s : State) (x : RosterState) :
    (s.setRosterState x).diesel = s.diesel := rfl
@[simp] theorem State.setRosterState_gas (s : State) (x : RosterState) :
    (s.setRosterState x).gas = s.gas := rfl
@[simp] theorem State.setRosterState_washes (s : State) (x : RosterState) :
    (s.setRosterState x).washes = s.washes := rfl
@[simp] theorem State.setRosterState_lanes (s : State) (x : RosterState) :
    (s.setRosterState x).lanes = s.lanes := rfl
@[simp] theorem State.setRosterState_roster (s : State) (x : RosterState) :
    (s.setRosterState x).roster = { s.roster with state := x } := rfl
@[simp] theorem State.setRosterState_line (s : State) (x : RosterState) :
    (s.setRosterState x).line = s.line := rfl
@[simp] theorem State.setRosterState_port (s : State) (x : RosterState) :
    (s.setRosterState x).port = s.port := rfl
@[simp] theorem State.setRosterState_attention (s : State) (x : RosterState) :
    (s.setRosterState x).attention = s.attention := rfl
@[simp] theorem State.setRosterState_pending (s : State) (x : RosterState) :
    (s.setRosterState x).pending = s.pending := rfl

/-! setTank -/

@[simp] theorem State.setTank_boot (s : State) (k : FuelKind) (t : Tank) :
    (s.setTank k t).boot = s.boot := by cases k <;> rfl
@[simp] theorem State.setTank_checkPassed (s : State) (k : FuelKind) (t : Tank) :
    (s.setTank k t).checkPassed = s.checkPassed := by cases k <;> rfl
@[simp] theorem State.setTank_phase (s : State) (k : FuelKind) (t : Tank) :
    (s.setTank k t).phase = s.phase := by cases k <;> rfl
@[simp] theorem State.setTank_times (s : State) (k : FuelKind) (t : Tank) :
    (s.setTank k t).times = s.times := by cases k <;> rfl
@[simp] theorem State.setTank_beams (s : State) (k : FuelKind) (t : Tank) :
    (s.setTank k t).beams = s.beams := by cases k <;> rfl
@[simp] theorem State.setTank_clock (s : State) (k : FuelKind) (t : Tank) :
    (s.setTank k t).clock = s.clock := by cases k <;> rfl
@[simp] theorem State.setTank_register (s : State) (k : FuelKind) (t : Tank) :
    (s.setTank k t).register = s.register := by cases k <;> rfl
@[simp] theorem State.setTank_cursor (s : State) (k : FuelKind) (t : Tank) :
    (s.setTank k t).cursor = s.cursor := by cases k <;> rfl
@[simp] theorem State.setTank_visits (s : State) (k : FuelKind) (t : Tank) :
    (s.setTank k t).visits = s.visits := by cases k <;> rfl
@[simp] theorem State.setTank_router (s : State) (k : FuelKind) (t : Tank) :
    (s.setTank k t).router = s.router := by cases k <;> rfl
@[simp] theorem State.setTank_islands (s : State) (k : FuelKind) (t : Tank) :
    (s.setTank k t).islands = s.islands := by cases k <;> rfl
@[simp] theorem State.setTank_washes (s : State) (k : FuelKind) (t : Tank) :
    (s.setTank k t).washes = s.washes := by cases k <;> rfl
@[simp] theorem State.setTank_lanes (s : State) (k : FuelKind) (t : Tank) :
    (s.setTank k t).lanes = s.lanes := by cases k <;> rfl
@[simp] theorem State.setTank_roster (s : State) (k : FuelKind) (t : Tank) :
    (s.setTank k t).roster = s.roster := by cases k <;> rfl
@[simp] theorem State.setTank_line (s : State) (k : FuelKind) (t : Tank) :
    (s.setTank k t).line = s.line := by cases k <;> rfl
@[simp] theorem State.setTank_port (s : State) (k : FuelKind) (t : Tank) :
    (s.setTank k t).port = s.port := by cases k <;> rfl
@[simp] theorem State.setTank_attention (s : State) (k : FuelKind) (t : Tank) :
    (s.setTank k t).attention = s.attention := by cases k <;> rfl
@[simp] theorem State.setTank_pending (s : State) (k : FuelKind) (t : Tank) :
    (s.setTank k t).pending = s.pending := by cases k <;> rfl
@[simp] theorem State.setTank_tank (s : State) (k : FuelKind) (t : Tank) :
    (s.setTank k t).tank k = t := by cases k <;> rfl
theorem State.setTank_tank_other (s : State) (k j : FuelKind) (t : Tank) (h : j ≠ k) :
    (s.setTank k t).tank j = s.tank j := by cases k <;> cases j <;> first | rfl | exact absurd rfl h

end Sys2Proof.Machine
end

