-- ==== Sys2Proof/Laws/Tables.lean ====
section
/-!
SUPPORT. Reading and writing the fixed tables: records, facilities, stations, beam lines, duties.
-/
namespace Sys2Proof.Machine

/-! Slots -/

theorem slotGet_lt {α : Type} {k : Nat} (v : Vector (Option α) k) (i : Nat) (x : α)
    (h : slotGet v i = some x) : i < k := by
  refine Nat.lt_of_not_le fun hn => ?_
  simp [slotGet, Vector.getElem?_eq_none hn] at h

@[simp] theorem slotGet_replicate_none {α : Type} {k : Nat} (i : Nat) :
    slotGet (Vector.replicate k (none : Option α)) i = none := by
  simp only [slotGet, Vector.getElem?_replicate]
  split <;> rfl

theorem slotGet_slotSet_self {α : Type} {k : Nat} (v : Vector (Option α) k) (i : Nat)
    (x : Option α) (h : i < k) : slotGet (slotSet v i x) i = x := by
  simp [slotGet, slotSet, h]

theorem slotGet_slotSet_ne {α : Type} {k : Nat} (v : Vector (Option α) k) (i j : Nat)
    (x : Option α) (h : j ≠ i) : slotGet (slotSet v i x) j = slotGet v j := by
  simp [slotGet, slotSet, Ne.symm h]

theorem slotGet_map {α : Type} {k : Nat} (v : Vector (Option α) k) (i : Nat) (f : α → α) :
    slotGet (v.map (·.map f)) i = (slotGet v i).map f := by
  simp only [slotGet, Vector.getElem?_map]
  cases v[i]? <;> rfl

/-! Records -/

theorem State.visit_lt {s : State} {h : Nat} {v : Visit} (e : s.visit h = some v) : h < 128 :=
  slotGet_lt _ _ _ e

theorem State.visit_congr {s t : State} (e : s.visits = t.visits) (h : Nat) :
    s.visit h = t.visit h := by simp [State.visit, e]

theorem State.visit_putVisit_self (s : State) (h : Nat) (x : Option Visit) (b : h < 128) :
    (s.putVisit h x).visit h = x := slotGet_slotSet_self _ _ _ b

theorem State.visit_putVisit_ne (s : State) (h k : Nat) (x : Option Visit) (n : k ≠ h) :
    (s.putVisit h x).visit k = s.visit k := slotGet_slotSet_ne _ _ _ _ n

theorem State.modVisit_eq {s : State} {h : Nat} {v : Visit} (e : s.visit h = some v)
    (f : Visit → Visit) :
    s.modVisit h f = { s with visits := s.visits.setIfInBounds h (some (f v)) } := by
  simp [State.modVisit, e, State.putVisit, State.setVisits, slotSet]

theorem State.modVisit_none {s : State} {h : Nat} (e : s.visit h = none) (f : Visit → Visit) :
    s.modVisit h f = s := by simp [State.modVisit, e]

theorem State.visit_modVisit_self (s : State) (h : Nat) (f : Visit → Visit) :
    (s.modVisit h f).visit h = (s.visit h).map f := by
  cases e : s.visit h with
  | none => simp [State.modVisit_none e, e]
  | some v => simp [State.modVisit, e, State.visit_putVisit_self _ _ _ (State.visit_lt e)]

theorem State.visit_modVisit_ne (s : State) (h k : Nat) (f : Visit → Visit) (n : k ≠ h) :
    (s.modVisit h f).visit k = s.visit k := by
  cases e : s.visit h with
  | none => simp [State.modVisit_none e]
  | some v => simp [State.modVisit, e, State.visit_putVisit_ne _ _ _ _ n]

/-- modVisit writes the records alone. -/
theorem State.modVisit_frame (s : State) (h : Nat) (f : Visit → Visit) :
    s.modVisit h f = { s with visits := (s.modVisit h f).visits } := by
  unfold State.modVisit
  cases s.visit h <;> rfl

/-! Island -/

theorem State.island_pos {s : State} {n : Nat} {x : Island} (e : s.island n = some x) :
    1 ≤ n ∧ n ≤ 6 := by
  unfold State.island at e
  split at e
  · cases e
  · have := slotGet_lt _ _ _ e
    omega

theorem State.island_congr {s t : State} (e : s.islands = t.islands) (n : Nat) :
    s.island n = t.island n := by simp [State.island, e]

theorem State.putIsland_eq (s : State) (n : Nat) (x : Option Island) (h : n ≠ 0) :
    s.putIsland n x = { s with islands := s.islands.setIfInBounds (n - 1) x } := by
  simp [State.putIsland, h, State.setIslands, slotSet]

theorem State.modIsland_eq {s : State} {n : Nat} {x : Island} (e : s.island n = some x)
    (f : Island → Island) :
    s.modIsland n f = { s with islands := s.islands.setIfInBounds (n - 1) (some (f x)) } := by
  have := State.island_pos e
  simp only [State.modIsland, e]
  exact State.putIsland_eq _ _ _ (by omega)

theorem State.modIsland_none {s : State} {n : Nat} (e : s.island n = none) (f : Island → Island) :
    s.modIsland n f = s := by simp [State.modIsland, e]

theorem State.island_putIsland_self (s : State) (n : Nat) (x : Option Island) (a : 1 ≤ n) (b : n ≤ 6) :
    (s.putIsland n x).island n = x := by
  have h : n ≠ 0 := by omega
  simp only [State.putIsland, State.island, h, if_false]
  exact slotGet_slotSet_self _ _ _ (by omega)

theorem State.island_putIsland_ne (s : State) (n m : Nat) (x : Option Island) (h : m ≠ n) :
    (s.putIsland n x).island m = s.island m := by
  by_cases hn : n = 0
  · simp [State.putIsland, hn]
  · by_cases hm : m = 0
    · simp [State.island, hm]
    · simp only [State.putIsland, State.island, hn, hm, if_false]
      exact slotGet_slotSet_ne _ _ _ _ (by omega)

theorem State.island_modIsland_self (s : State) (n : Nat) (f : Island → Island) :
    (s.modIsland n f).island n = (s.island n).map f := by
  cases e : s.island n with
  | none => simp [State.modIsland_none e, e]
  | some x =>
    have := State.island_pos e
    simp [State.modIsland, e, State.island_putIsland_self _ _ _ this.1 this.2]

theorem State.island_modIsland_ne (s : State) (n m : Nat) (f : Island → Island) (h : m ≠ n) :
    (s.modIsland n f).island m = s.island m := by
  cases e : s.island n with
  | none => simp [State.modIsland_none e]
  | some x => simp [State.modIsland, e, State.island_putIsland_ne _ _ _ _ h]

/-- modIsland writes its table alone. -/
theorem State.modIsland_frame (s : State) (n : Nat) (f : Island → Island) :
    s.modIsland n f = { s with islands := (s.modIsland n f).islands } := by
  cases e : s.island n with
  | none => rw [State.modIsland_none e]
  | some x => rw [State.modIsland_eq e]

/-! Wash -/

theorem State.wash_pos {s : State} {n : Nat} {x : WashLane} (e : s.wash n = some x) :
    1 ≤ n ∧ n ≤ 3 := by
  unfold State.wash at e
  split at e
  · cases e
  · have := slotGet_lt _ _ _ e
    omega

theorem State.wash_congr {s t : State} (e : s.washes = t.washes) (n : Nat) :
    s.wash n = t.wash n := by simp [State.wash, e]

theorem State.putWash_eq (s : State) (n : Nat) (x : Option WashLane) (h : n ≠ 0) :
    s.putWash n x = { s with washes := s.washes.setIfInBounds (n - 1) x } := by
  simp [State.putWash, h, State.setWashes, slotSet]

theorem State.modWash_eq {s : State} {n : Nat} {x : WashLane} (e : s.wash n = some x)
    (f : WashLane → WashLane) :
    s.modWash n f = { s with washes := s.washes.setIfInBounds (n - 1) (some (f x)) } := by
  have := State.wash_pos e
  simp only [State.modWash, e]
  exact State.putWash_eq _ _ _ (by omega)

theorem State.modWash_none {s : State} {n : Nat} (e : s.wash n = none) (f : WashLane → WashLane) :
    s.modWash n f = s := by simp [State.modWash, e]

theorem State.wash_putWash_self (s : State) (n : Nat) (x : Option WashLane) (a : 1 ≤ n) (b : n ≤ 3) :
    (s.putWash n x).wash n = x := by
  have h : n ≠ 0 := by omega
  simp only [State.putWash, State.wash, h, if_false]
  exact slotGet_slotSet_self _ _ _ (by omega)

theorem State.wash_putWash_ne (s : State) (n m : Nat) (x : Option WashLane) (h : m ≠ n) :
    (s.putWash n x).wash m = s.wash m := by
  by_cases hn : n = 0
  · simp [State.putWash, hn]
  · by_cases hm : m = 0
    · simp [State.wash, hm]
    · simp only [State.putWash, State.wash, hn, hm, if_false]
      exact slotGet_slotSet_ne _ _ _ _ (by omega)

theorem State.wash_modWash_self (s : State) (n : Nat) (f : WashLane → WashLane) :
    (s.modWash n f).wash n = (s.wash n).map f := by
  cases e : s.wash n with
  | none => simp [State.modWash_none e, e]
  | some x =>
    have := State.wash_pos e
    simp [State.modWash, e, State.wash_putWash_self _ _ _ this.1 this.2]

theorem State.wash_modWash_ne (s : State) (n m : Nat) (f : WashLane → WashLane) (h : m ≠ n) :
    (s.modWash n f).wash m = s.wash m := by
  cases e : s.wash n with
  | none => simp [State.modWash_none e]
  | some x => simp [State.modWash, e, State.wash_putWash_ne _ _ _ _ h]

/-- modWash writes its table alone. -/
theorem State.modWash_frame (s : State) (n : Nat) (f : WashLane → WashLane) :
    s.modWash n f = { s with washes := (s.modWash n f).washes } := by
  cases e : s.wash n with
  | none => rw [State.modWash_none e]
  | some x => rw [State.modWash_eq e]

/-! Lane -/

theorem State.lane_pos {s : State} {n : Nat} {x : Lane} (e : s.lane n = some x) :
    1 ≤ n ∧ n ≤ 20 := by
  unfold State.lane at e
  split at e
  · cases e
  · have := slotGet_lt _ _ _ e
    omega

theorem State.lane_congr {s t : State} (e : s.lanes = t.lanes) (n : Nat) :
    s.lane n = t.lane n := by simp [State.lane, e]

theorem State.putLane_eq (s : State) (n : Nat) (x : Option Lane) (h : n ≠ 0) :
    s.putLane n x = { s with lanes := s.lanes.setIfInBounds (n - 1) x } := by
  simp [State.putLane, h, State.setLanes, slotSet]

theorem State.modLane_eq {s : State} {n : Nat} {x : Lane} (e : s.lane n = some x)
    (f : Lane → Lane) :
    s.modLane n f = { s with lanes := s.lanes.setIfInBounds (n - 1) (some (f x)) } := by
  have := State.lane_pos e
  simp only [State.modLane, e]
  exact State.putLane_eq _ _ _ (by omega)

theorem State.modLane_none {s : State} {n : Nat} (e : s.lane n = none) (f : Lane → Lane) :
    s.modLane n f = s := by simp [State.modLane, e]

theorem State.lane_putLane_self (s : State) (n : Nat) (x : Option Lane) (a : 1 ≤ n) (b : n ≤ 20) :
    (s.putLane n x).lane n = x := by
  have h : n ≠ 0 := by omega
  simp only [State.putLane, State.lane, h, if_false]
  exact slotGet_slotSet_self _ _ _ (by omega)

theorem State.lane_putLane_ne (s : State) (n m : Nat) (x : Option Lane) (h : m ≠ n) :
    (s.putLane n x).lane m = s.lane m := by
  by_cases hn : n = 0
  · simp [State.putLane, hn]
  · by_cases hm : m = 0
    · simp [State.lane, hm]
    · simp only [State.putLane, State.lane, hn, hm, if_false]
      exact slotGet_slotSet_ne _ _ _ _ (by omega)

theorem State.lane_modLane_self (s : State) (n : Nat) (f : Lane → Lane) :
    (s.modLane n f).lane n = (s.lane n).map f := by
  cases e : s.lane n with
  | none => simp [State.modLane_none e, e]
  | some x =>
    have := State.lane_pos e
    simp [State.modLane, e, State.lane_putLane_self _ _ _ this.1 this.2]

theorem State.lane_modLane_ne (s : State) (n m : Nat) (f : Lane → Lane) (h : m ≠ n) :
    (s.modLane n f).lane m = s.lane m := by
  cases e : s.lane n with
  | none => simp [State.modLane_none e]
  | some x => simp [State.modLane, e, State.lane_putLane_ne _ _ _ _ h]

/-- modLane writes its table alone. -/
theorem State.modLane_frame (s : State) (n : Nat) (f : Lane → Lane) :
    s.modLane n f = { s with lanes := (s.modLane n f).lanes } := by
  cases e : s.lane n with
  | none => rw [State.modLane_none e]
  | some x => rw [State.modLane_eq e]

/-! Stations -/

theorem State.station_pos {s : State} {a : Nat} {t : Station} (e : s.station a = some t) :
    1 ≤ a ∧ a ≤ 16 := by
  unfold State.station at e
  split at e
  · cases e
  · have := slotGet_lt _ _ _ e
    omega

theorem State.station_congr {s t : State} (e : s.line.stations = t.line.stations) (a : Nat) :
    s.station a = t.station a := by simp [State.station, e]

theorem State.putStation_eq (s : State) (a : Nat) (x : Option Station) (h : a ≠ 0) :
    s.putStation a x =
      { s with line := { s.line with stations := s.line.stations.setIfInBounds (a - 1) x } } := by
  simp [State.putStation, h, State.setStations, State.setLine, slotSet]

theorem State.modStation_eq {s : State} {a : Nat} {t : Station} (e : s.station a = some t)
    (f : Station → Station) :
    s.modStation a f = { s with line := { s.line with
      stations := s.line.stations.setIfInBounds (a - 1) (some (f t)) } } := by
  have := State.station_pos e
  simp only [State.modStation, e]
  exact State.putStation_eq _ _ _ (by omega)

theorem State.station_putStation_self (s : State) (a : Nat) (x : Option Station) (h : 1 ≤ a)
    (k : a ≤ 16) : (s.putStation a x).station a = x := by
  have hn : a ≠ 0 := by omega
  simp only [State.putStation, State.station, hn, if_false]
  exact slotGet_slotSet_self _ _ _ (by omega)

theorem State.station_putStation_ne (s : State) (a b : Nat) (x : Option Station) (h : b ≠ a) :
    (s.putStation a x).station b = s.station b := by
  by_cases ha : a = 0
  · simp [State.putStation, ha]
  · by_cases hb : b = 0
    · simp [State.station, hb]
    · simp only [State.putStation, State.station, ha, hb, if_false]
      exact slotGet_slotSet_ne _ _ _ _ (by omega)

/-! Beam lines -/

theorem State.modBeam_eq {s : State} {l : Nat} {b : Beam} (e : s.beam l = some b)
    (f : Beam → Beam) :
    s.modBeam l f = { s with beams := s.beams.setIfInBounds l (f b) } := by
  simp [State.modBeam, e, State.setBeams]

/-! Duties -/

theorem State.modDuty_eq {s : State} {slot : Nat} {d : Duty} (e : s.duty slot = some d)
    (f : Duty → Duty) :
    s.modDuty slot f =
      { s with roster := { s.roster with duties := s.roster.duties.set slot (f d) } } := by
  simp [State.modDuty, e, State.setDuties, State.setRoster]

theorem State.modDuty_none {s : State} {slot : Nat} (e : s.duty slot = none) (f : Duty → Duty) :
    s.modDuty slot f = s := by simp [State.modDuty, e]

theorem State.duty_modDuty_self (s : State) (slot : Nat) (f : Duty → Duty) :
    (s.modDuty slot f).duty slot = (s.duty slot).map f := by
  cases e : s.duty slot with
  | none => simp [State.modDuty_none e, e]
  | some d =>
    have h : slot < s.roster.duties.length := by
      refine Nat.lt_of_not_le fun hn => ?_
      simp [State.duty, List.getElem?_eq_none hn] at e
    simp [State.modDuty_eq e, State.duty, h]

theorem State.duty_modDuty_ne (s : State) (slot k : Nat) (f : Duty → Duty) (n : k ≠ slot) :
    (s.modDuty slot f).duty k = s.duty k := by
  cases e : s.duty slot with
  | none => simp [State.modDuty_none e]
  | some d =>
    rw [State.modDuty_eq e]
    simp [State.duty, List.getElem?_set_ne (Ne.symm n)]

theorem State.duty_congr {s t : State} (e : s.roster.duties = t.roster.duties) (k : Nat) :
    s.duty k = t.duty k := by simp [State.duty, e]

end Sys2Proof.Machine
end

