-- ==== Sys2Proof/Laws/Router.lean ====
section
/-!
SUPPORT. What the Router's shared operations can do: a directive writes the line alone, and the question for the head of an island has two outcomes (R95).
-/
namespace Sys2Proof.Machine

/-! Directives -/

/-- A post reads and writes the line alone. -/
theorem State.post_congr {s t : State} (h : s.line = t.line) (a : Nat) (d : Directive) :
    s.post a d = { s with line := (t.post a d).line } := by
  have hs : s.station a = t.station a := by simp [State.station, h]
  unfold State.post
  rw [hs]
  cases t.station a with
  | none => simp [← h]
  | some x =>
    unfold State.putStation State.setStations State.setLine
    by_cases ha : a = 0
    · simp only [ha, if_true, h]
      cases t.line.poll with
      | none => simp [← h]
      | some p => by_cases hp : p.address = 0 <;> simp [hp, ← h]
    · simp only [ha, if_false, h]
      cases t.line.poll with
      | none => rfl
      | some p => by_cases hp : p.address = a <;> simp [hp]

theorem State.postAt_congr {s t : State} (h : s.line = t.line) (k : StationKind) (n : Nat)
    (d : Directive) : s.postAt k n d = { s with line := (t.postAt k n d).line } := by
  have hs : s.stationOf k n = t.stationOf k n := by simp [State.stationOf, State.station, h]
  unfold State.postAt
  rw [hs]
  cases t.stationOf k n with
  | none => simp [← h]
  | some a => exact State.post_congr h a d

/-- A directive at a facility's station writes the line alone. -/
theorem State.postAt_frame (s : State) (k : StationKind) (n : Nat) (d : Directive) :
    s.postAt k n d = { s with line := (s.postAt k n d).line } := State.postAt_congr rfl k n d

/-- A capacity report and a directive meet no common block. -/
theorem State.postAt_reportCapacity (s : State) (k : StationKind) (n : Nat) (d : Directive) :
    (s.postAt k n d).reportCapacity = s.reportCapacity.postAt k n d := by
  rw [State.postAt_frame s, State.postAt_congr (s := s.reportCapacity) (t := s) rfl]
  rfl

/-! The question for the head of an island (R76, R95) -/

theorem Visit.nextStage_of_fuel {v : Visit} (h : v.fuelResult ≠ .unset) :
    v.nextStage = v.stageAfterFuel := by
  simp [Visit.nextStage, Machine.nextStage, Visit.stageAfterFuel, h]

theorem Visit.stageAfterFuel_ne (v : Visit) : v.stageAfterFuel ≠ .fuel := by
  unfold Visit.stageAfterFuel
  split <;> simp

/-- With no target the head is DONE and exit-held. -/
theorem islandAsk_held {scan : State → State} {n h : Nat} {s : State} {v : Visit} {p : Profile}
    (hv : (s.scanFirst scan).visit h = some v) (hp : (s.scanFirst scan).profile h = some p)
    (hf : v.fuelResult ≠ .unset)
    (ht : (s.scanFirst scan).targetFor p v.stageAfterFuel = none) :
    islandAsk scan n h s = ((s.scanFirst scan).headHeldAt n h v v.stageAfterFuel, false) := by
  generalize hu : s.scanFirst scan = u at hv hp ht
  simp only [islandAsk, hu, hv, hp, State.routeFrom, Visit.nextStage_of_fuel hf, ht,
    Visit.stageAfterFuel_ne, false_and, if_false, State.setSub]
  rw [State.modVisit_eq hv]
  rfl

/-- With a target the head has left for it. -/
theorem islandAsk_gone {scan : State → State} {n h : Nat} {s : State} {i : Island} {v : Visit}
    {p : Profile} {g : Target} (hi : (s.scanFirst scan).island n = some i)
    (hv : (s.scanFirst scan).visit h = some v) (hp : (s.scanFirst scan).profile h = some p)
    (hf : v.fuelResult ≠ .unset)
    (ht : (s.scanFirst scan).targetFor p v.stageAfterFuel = some g) :
    islandAsk scan n h s = ((s.scanFirst scan).headGoneTo n h p.units i v g, true) := by
  generalize hu : s.scanFirst scan = u at hi hv hp ht
  simp only [islandAsk, hu, hv, hp, State.routeFrom, Visit.nextStage_of_fuel hf, ht]
  have hg : (∃ m, g = .wash m) ∨ ∃ m, g = .lane m := by
    unfold Visit.stageAfterFuel at ht
    split at ht <;> simp only [State.targetFor, Option.map_eq_some_iff] at ht
    · exact Or.inl ⟨_, ht.choose_spec.2.symm⟩
    · exact Or.inr ⟨_, ht.choose_spec.2.symm⟩
  refine Prod.ext ?_ rfl
  simp only [State.islandHeadLeaves, State.postAt_reportCapacity]
  refine congrArg (fun x => State.postAt x .island n g.directive) ?_
  unfold State.enterTransit
  rcases hg with ⟨m, rfl⟩ | ⟨m, rfl⟩
  · have claimed : ∀ x : State, x.washes = u.washes → x.claim h p.units (.wash m) =
        { x with washes := (u.claim h p.units (.wash m)).washes } := by
      intro x hx
      have hm : x.wash m = u.wash m := State.wash_congr hx m
      simp only [State.claim]
      cases hk : u.wash m with
      | none => rw [State.modWash_none (by rw [hm, hk]), State.modWash_none hk, ← hx]
      | some k => rw [State.modWash_eq (by rw [hm, hk]), State.modWash_eq hk, hx]
    rw [claimed u rfl, State.modIsland_eq (by exact hi), State.modVisit_eq (by exact hv)]
    exact ((claimed _ (by rfl)).trans (by rfl)).symm
  · have claimed : ∀ x : State, x.lanes = u.lanes → x.claim h p.units (.lane m) =
        { x with lanes := (u.claim h p.units (.lane m)).lanes } := by
      intro x hx
      have hm : x.lane m = u.lane m := State.lane_congr hx m
      simp only [State.claim]
      cases hk : u.lane m with
      | none => rw [State.modLane_none (by rw [hm, hk]), State.modLane_none hk, ← hx]
      | some k => rw [State.modLane_eq (by rw [hm, hk]), State.modLane_eq hk, hx]
    rw [claimed u rfl, State.modIsland_eq (by exact hi), State.modVisit_eq (by exact hv)]
    exact ((claimed _ (by rfl)).trans (by rfl)).symm

end Sys2Proof.Machine
end

