-- ==== Sys2Proof/Laws/Duties.lean ====
section
/-!
SUPPORT. What the shared operations of the Roster Unit and of the queries can do: the member of least measure, the order of duties, both sides of a binding, the withdrawal of a call.
-/
namespace Sys2Proof.Machine

/-! The member of least measure -/

/-- On a list in ascending order the choice is the least member of least measure. -/
theorem leastBy_eq_some (f : Nat → Nat) (xs : List Nat) (n : Nat)
    (h : xs.Pairwise fun a b => a < b) :
    leastBy f xs = some n ↔ n ∈ xs ∧ ∀ m ∈ xs, f n < f m ∨ (f n = f m ∧ n ≤ m) := by
  induction xs generalizing n with
  | nil => simp [leastBy]
  | cons x xs ih =>
    obtain ⟨hx, hs⟩ := List.pairwise_cons.mp h
    have key : ∀ k, leastBy f xs = some k → (∀ m ∈ xs, f k < f m ∨ (f k = f m ∧ k ≤ m)) ∧ x < k :=
      fun k hk => ⟨((ih k hs).mp hk).2, hx k ((ih k hs).mp hk).1⟩
    simp only [leastBy]
    cases hl : leastBy f xs with
    | none =>
      have hn : xs = [] := by
        cases xs with
        | nil => rfl
        | cons y ys =>
          simp only [leastBy] at hl
          cases hy : leastBy f ys with
          | none => simp [hy] at hl
          | some k => simp only [hy] at hl; split at hl <;> cases hl
      subst hn
      simp only [Option.some.injEq, List.mem_singleton]
      constructor
      · rintro rfl
        exact ⟨rfl, by rintro m rfl; omega⟩
      · rintro ⟨rfl, _⟩
        rfl
    | some k =>
      obtain ⟨hk, hxk⟩ := key k hl
      have hmem := ((ih k hs).mp hl).1
      by_cases hle : f x ≤ f k
      · simp only [hle, if_true, Option.some.injEq, List.mem_cons]
        constructor
        · rintro rfl
          refine ⟨Or.inl rfl, ?_⟩
          rintro m (rfl | hm)
          · omega
          · have := hk m hm
            have := hx m hm
            omega
        · rintro ⟨hn, hall⟩
          have h1 := hall x (Or.inl rfl)
          rcases hn with rfl | hn
          · rfl
          · have := hx n hn
            have := hk n hn
            omega
      · simp only [hle, if_false, Option.some.injEq, List.mem_cons]
        constructor
        · rintro rfl
          refine ⟨Or.inr hmem, ?_⟩
          rintro m (rfl | hm)
          · omega
          · exact hk m hm
        · rintro ⟨hn, hall⟩
          have h1 := hall k (Or.inr hmem)
          rcases hn with rfl | hn
          · omega
          · have := hk n hn
            omega

theorem leastBy_eq_none (f : Nat → Nat) (xs : List Nat) : leastBy f xs = none ↔ xs = [] := by
  cases xs with
  | nil => simp [leastBy]
  | cons x xs =>
    simp only [leastBy]
    cases leastBy f xs with
    | none => simp
    | some k => by_cases h : f x ≤ f k <;> simp [h]

/-! The order of duties (R154) -/

theorem mem_insertBy (f : Nat → Nat) (x y : Nat) (xs : List Nat) :
    y ∈ insertBy f x xs ↔ y = x ∨ y ∈ xs := by
  induction xs with
  | nil => simp [insertBy]
  | cons z zs ih =>
    simp only [insertBy]
    split
    · simp
    · simp only [List.mem_cons, ih]
      constructor <;> rintro (h | h | h) <;> simp [h]

/-- Inserting a member above all others in number keeps the order by measure, ties by number. -/
theorem insertBy_pairwise (f : Nat → Nat) (x : Nat) (xs : List Nat) (hx : ∀ y ∈ xs, y < x)
    (h : xs.Pairwise fun a b => f a < f b ∨ (f a = f b ∧ a < b)) :
    (insertBy f x xs).Pairwise fun a b => f a < f b ∨ (f a = f b ∧ a < b) := by
  induction xs with
  | nil => simp [insertBy]
  | cons z zs ih =>
    obtain ⟨hz, hs⟩ := List.pairwise_cons.mp h
    simp only [insertBy]
    split
    · rename_i hlt
      refine List.pairwise_cons.mpr ⟨fun y hy => ?_, h⟩
      rcases List.mem_cons.mp hy with rfl | hy
      · exact Or.inl hlt
      · have := hz y hy
        omega
    · rename_i hnl
      refine List.pairwise_cons.mpr
        ⟨fun y hy => ?_, ih (fun y hy => hx y (List.mem_cons_of_mem _ hy)) hs⟩
      rcases (mem_insertBy f x y zs).mp hy with rfl | hy
      · have := hx z (List.mem_cons_self ..)
        omega
      · exact hz y hy

/-- The slots by ascending pull-out, built over the first k of them. -/
theorem insertBy_fold (f : Nat → Nat) (k : Nat) :
    ((List.range k).foldl (fun acc x => insertBy f x acc) []).Pairwise
      (fun a b => f a < f b ∨ (f a = f b ∧ a < b)) ∧
    ∀ y, y ∈ (List.range k).foldl (fun acc x => insertBy f x acc) [] ↔ y < k := by
  induction k with
  | zero => simp
  | succ k ih =>
    rw [List.range_succ, List.foldl_append]
    simp only [List.foldl_cons, List.foldl_nil]
    refine ⟨insertBy_pairwise f k _ (fun y hy => (ih.2 y).mp hy) ih.1, fun y => ?_⟩
    rw [mem_insertBy, ih.2]
    omega

theorem State.slotsByPullOut_order (s : State) : s.InPullOutOrder s.slotsByPullOut :=
  (insertBy_fold _ _).1

theorem State.mem_slotsByPullOut (s : State) (slot : Nat) :
    slot ∈ s.slotsByPullOut ↔ slot < s.roster.duties.length := (insertBy_fold _ _).2 slot

/-! Bindings (R150) -/

/-- A binding writes one duty and one record. -/
theorem State.bindDuty_eq {s : State} {slot h : Nat} {d : Duty} {v : Visit}
    (hd : s.duty slot = some d) (hv : s.visit h = some v) :
    s.bindDuty slot h = { s with
      roster := { s.roster with duties := s.roster.duties.set slot { d with bound := some h } }
      visits := s.visits.setIfInBounds h (some { v with duty := some slot }) } := by
  unfold State.bindDuty
  rw [State.modDuty_eq hd]
  exact State.modVisit_eq (by exact hv) _

/-- An unbinding writes the duty and the record that it is bound to. -/
theorem State.unbindDuty_eq {s : State} {slot h : Nat} {d : Duty} {v : Visit}
    (hd : s.duty slot = some d) (hb : d.bound = some h) (hv : s.visit h = some v) :
    s.unbindDuty slot = { s with
      roster := { s.roster with duties := s.roster.duties.set slot { d with bound := none } }
      visits := s.visits.setIfInBounds h (some { v with duty := none }) } := by
  simp only [State.unbindDuty, hd, hb]
  rw [State.modVisit_eq hv]
  exact State.modDuty_eq (by exact hd) _

/-- Auto-bind's binding leaves the swapped flag clear (R156). -/
theorem State.autoBindTo_eq {s : State} {slot h : Nat} {d : Duty} {v : Visit}
    (hd : s.duty slot = some d) (hv : s.visit h = some v) :
    s.autoBindTo slot h = { s with
      roster := { s.roster with
        duties := s.roster.duties.set slot { d with bound := some h, swapped := false } }
      visits := s.visits.setIfInBounds h (some { v with duty := some slot }) } := by
  have hl : slot < s.roster.duties.length := by
    refine Nat.lt_of_not_le fun hn => ?_
    simp [State.duty, List.getElem?_eq_none hn] at hd
  unfold State.autoBindTo
  rw [State.bindDuty_eq hd hv,
    State.modDuty_eq (d := { d with bound := some h }) (by simp [State.duty, hl])]
  simp

/-! The withdrawal of a call (R53, R158) -/

/-- The record of a withdrawn call is PARKED with no movement, and no other record changes. -/
theorem State.visit_uncall (s : State) (h k : Nat) :
    (s.uncall h).visit k = if k = h then
      (s.visit h).map fun v => { v with state := .parked, movement := none }
    else s.visit k := by
  have post : ∀ (t : State) (n : Nat) (d : Directive), (t.postAt .lanePost n d).visits = t.visits := by
    intro t n d
    unfold State.postAt
    cases t.stationOf .lanePost n with
    | none => rfl
    | some a =>
      simp only [State.post]
      cases hs : t.station a with
      | none => rfl
      | some x =>
        simp only [State.putStation, State.setStations, State.setLine]
        split <;> (try split) <;> (try split) <;> rfl
  have free : ∀ (t : State) (n : Nat), (t.freeExitLock n h).visits = t.visits := by
    intro t n
    unfold State.freeExitLock
    cases t.lane n with
    | none => rfl
    | some l =>
      simp only
      split
      · cases l.kind <;>
          simp only [State.putLane, State.setLanes, State.reportCapacity, State.setRouter] <;>
          split <;> rfl
      · rfl
  have hv : (s.uncall h).visits =
      (s.modVisit h fun v => { v with state := .parked, movement := none }).visits := by
    unfold State.uncall
    cases s.laneNumberOf h with
    | none => rfl
    | some n => rw [post, free]
  rw [State.visit_congr hv]
  by_cases hk : k = h
  · subst hk
    simp [State.visit_modVisit_self]
  · simp [hk, State.visit_modVisit_ne]

/-- An exit lock that names the record is freed; the mouth of a STACK lane is its entry lock too, so that is capacity (R125). -/
theorem State.freeExitLock_eq {s : State} {n h : Nat} {l : Lane} {g : Target}
    (hl : s.lane n = some l) (hx : l.exitLock = some (.outbound h g)) :
    s.freeExitLock n h = { s with
      lanes := s.lanes.setIfInBounds (n - 1) (some (l.setExitLock none))
      router := { s.router with scanPending := s.router.scanPending || l.kind == .stack } } := by
  have hn := State.lane_pos hl
  simp only [State.freeExitLock, hl, hx, Option.map_some, Movement.handle, if_true]
  rw [State.putLane_eq _ _ _ (by omega)]
  cases hk : l.kind with
  | stack => simp [State.reportCapacity, State.setRouter]
  | through =>
    have hb : (LaneKind.through == .stack) = false := rfl
    simp [hb]

/-- Where a CALLED record is no longer READY its call is withdrawn: record, lock, duty, flag and directive at one event. -/
theorem State.withdrawUnready_eq {s : State} {h n slot : Nat} {v : Visit} {l : Lane} {d : Duty}
    {g : Target} (hv : s.visit h = some v) (hc : v.state = .called) (hr : v.ready = false)
    (hp : v.place = some (.lane n)) (hl : s.lane n = some l)
    (hx : l.exitLock = some (.outbound h g)) (hs : v.duty = some slot) (hd : s.duty slot = some d) :
    s.withdrawUnready h = { s with
      visits := s.visits.setIfInBounds h (some { v with state := .parked, movement := none })
      lanes := s.lanes.setIfInBounds (n - 1) (some (l.setExitLock none))
      roster := { s.roster with
        duties := s.roster.duties.set slot { d with state := .held .notReady } }
      router := { s.router with scanPending := s.router.scanPending || l.kind == .stack }
      line := (s.postAt .lanePost n .blank).line } := by
  simp only [State.withdrawUnready, hv, hc, hr, hs, Bool.not_false, and_self, if_true, State.uncall,
    State.laneNumberOf, hp, State.holdDuty, State.setDutyState]
  rw [State.modVisit_eq hv, State.freeExitLock_eq (by exact hl) hx]
  refine (congrArg (fun x => State.modDuty x slot _) (State.postAt_congr (t := s) (by rfl) ..)).trans ?_
  show State.modDuty _ _ _ = _
  rw [State.modDuty_eq (d := d) (by exact hd)]
  simp only [hp, hs]

end Sys2Proof.Machine
end

