-- ==== Sys2Proof/Laws/Port.lean ====
section
/-!
SUPPORT. What taking a request can do, case by case (R9, R10, R177, R179).
-/
namespace Sys2Proof.Machine

theorem request_inHand (code : Byte) (p : Phase → Bool) (owner : State → Outcome) (s : State)
    (h : s.port.inHand ≠ none) : request code p owner s = s := by
  simp [request, Option.isSome_iff_ne_none, h]

theorem request_resetLow (code : Byte) (p : Phase → Bool) (owner : State → Outcome) (s : State)
    (b : s.boot = .resetLow) : request code p owner s = s := by
  unfold request
  rw [b]
  split <;> rfl

theorem request_checking (code : Byte) (p : Phase → Bool) (owner : State → Outcome) (s : State)
    (h : s.port.inHand = none) (b : s.boot = .checking) :
    request code p owner s = s.takeRequest ⟨code, .busy, []⟩ := by simp [request, h, b]

theorem request_phase (code : Byte) (p : Phase → Bool) (owner : State → Outcome) (s : State)
    (h : s.port.inHand = none) (b : s.boot = .running) (q : p s.phase = false) :
    request code p owner s = s.takeRequest ⟨code, .phase, []⟩ := by simp [request, h, b, q]

/-- A request that is taken: its owner's outcome. -/
theorem request_taken (code : Byte) (p : Phase → Bool) (owner : State → Outcome) (s : State)
    (h : s.Takes p) :
    request code p owner s =
      (owner s).state.takeRequest ⟨code, (owner s).result, (owner s).data⟩ := by
  obtain ⟨a, b, c⟩ := h
  simp [request, a, b, c]

/-- Everything a request can do: nothing, an answer with no owner's effect, or its owner's outcome. -/
theorem request_cases (code : Byte) (p : Phase → Bool) (owner : State → Outcome) (s : State) :
    request code p owner s = s ∨
      (∃ r, request code p owner s = s.takeRequest ⟨code, r, []⟩) ∨
      (s.Takes p ∧ request code p owner s =
        (owner s).state.takeRequest ⟨code, (owner s).result, (owner s).data⟩) := by
  by_cases h : s.port.inHand = none
  · cases b : s.boot with
    | resetLow => exact .inl (request_resetLow _ _ _ _ b)
    | checking => exact .inr (.inl ⟨_, request_checking _ _ _ _ h b⟩)
    | running =>
      cases q : p s.phase with
      | false => exact .inr (.inl ⟨_, request_phase _ _ _ _ h b q⟩)
      | true => exact .inr (.inr ⟨⟨b, h, q⟩, request_taken _ _ _ _ ⟨b, h, q⟩⟩)
  · exact .inl (request_inHand _ _ _ _ h)

/-- Taking a request writes the port alone. -/
theorem takeRequest_frame (s : State) (a : Answer) :
    s.takeRequest a = { s with port := (s.takeRequest a).port } := rfl

@[simp] theorem takeRequest_inHand (s : State) (a : Answer) :
    (s.takeRequest a).port.inHand = some a := rfl
@[simp] theorem takeRequest_held (s : State) (a : Answer) :
    (s.takeRequest a).port.held = none := rfl

end Sys2Proof.Machine
end

