-- ==== Sys2Proof/Laws/Settle.lean ====
section
/-!
SUPPORT. The end of an event (R159, R164): an event that leaves records, lists, lanes, roster and times as they were brings no re-test and no stale mark.
-/
namespace Sys2Proof.Machine

/-- The two states agree in everything that the end of an event reads. -/
def SameYard (s t : State) : Prop :=
  s.visits = t.visits ∧ (∀ p, s.listAt p = t.listAt p) ∧ s.lanes = t.lanes ∧
    s.roster = t.roster ∧ s.times = t.times

theorem SameYard.refl (s : State) : SameYard s s := ⟨rfl, fun _ => rfl, rfl, rfl, rfl⟩

theorem SameYard.listAt {s t : State} (h : SameYard s t) (p : Place) : s.listAt p = t.listAt p :=
  h.2.1 p

/-- States that differ in the line, the beam lines, the port, the clock, the stocks, the register or the attention only. -/
theorem SameYard.of_blocks {s t : State} (a : s.visits = t.visits)
    (b : s.router.apron = t.router.apron) (c : s.islands = t.islands) (d : s.washes = t.washes)
    (e : s.lanes = t.lanes) (f : s.roster = t.roster) (g : s.times = t.times) : SameYard s t := by
  refine ⟨a, fun p => ?_, e, f, g⟩
  cases p <;> simp [State.listAt, b, State.island_congr c, State.wash_congr d, State.lane_congr e]

theorem SameYard.passed {s t : State} (h : SameYard s t) (k : Nat) : s.passed k = t.passed k := by
  have hv : ∀ k, s.visit k = t.visit k := State.visit_congr h.1
  simp [State.passed, State.position, hv, h.listAt]

theorem SameYard.boundOf {s t : State} (h : SameYard s t) (k : Nat) : s.boundOf k = t.boundOf k := by
  obtain ⟨_, _, _, r, _⟩ := h
  simp [State.boundOf, State.duty, r]

theorem lockPassed_same (m : Option Movement) : lockPassed m m = false := by
  cases m with
  | none => rfl
  | some x => simp [lockPassed]

theorem SameYard.triggered {s t : State} (h : SameYard s t) (slot : Nat) :
    triggered s t slot = false := by
  have hv : ∀ k, s.visit k = t.visit k := State.visit_congr h.1
  have hl : ∀ k, s.lane k = t.lane k := State.lane_congr h.2.2.1
  have hr : ∀ k, s.isReady k = t.isReady k := fun k => by simp [State.isReady, hv]
  have hp : ∀ n, lanePassed s t n = false := fun n => by
    simp only [lanePassed, hl]
    cases t.lane n with
    | none => rfl
    | some l => simp [lockPassed_same]
  have hu : uncoveredTrigger s t = false := by
    simp only [uncoveredTrigger, List.any_eq_false]
    intro n _
    cases hn : t.lane n with
    | none => simp
    | some l =>
      cases hq : l.list with
      | nil => simp [hq]
      | cons k ks =>
        cases hk : (t.visit k).bind (·.duty) <;> cases hx : l.exitLock <;>
          cases hrd : t.isReady k <;> simp [hq, hr, hv, hl, hn, hk, hx, hrd]
  unfold Machine.triggered
  cases hd : t.duty slot with
  | none => rfl
  | some d =>
    have hb : s.boundOf slot = d.bound := by rw [h.boundOf]; simp [State.boundOf, hd]
    cases hs : d.state.reason with
    | none => simp [hs]
    | some reason =>
      cases hbd : d.bound with
      | none => simp [hs, hb, hbd, hu]
      | some k => cases hk : t.laneNumberOf k <;> simp [hs, hb, hbd, h.passed, hk, hp]

theorem SameYard.retests {s t : State} (h : SameYard s t) : retests s t = t := by
  unfold Machine.retests
  split
  · have : t.slotsByPullOut.filter (Machine.triggered s t) = [] := by
      simp [List.filter_eq_nil_iff, h.triggered]
    rw [this]
    rfl
  · rfl

theorem SameYard.touchesWalked {s t : State} (h : SameYard s t) : touchesWalked s t = false := by
  have hv : ∀ k, s.visit k = t.visit k := State.visit_congr h.1
  have hn : ∀ k, s.laneNumberOf k = t.laneNumberOf k := fun k => by simp [State.laneNumberOf, hv]
  have hl : ∀ n, s.laneList n = t.laneList n := fun n => h.listAt _
  simp only [Machine.touchesWalked, List.any_eq_false]
  intro slot _
  rw [h.boundOf]
  cases t.boundOf slot with
  | none => simp
  | some k =>
    simp only [laneListTouched, hn, hl]
    cases t.laneNumberOf k <;> simp

/-- An event that changes nothing the end of an event reads is at its end. -/
theorem SameYard.settle {s t : State} (h : SameYard s t) : settle s t = t := by
  simp [Machine.settle, markStale, h.retests, h.touchesWalked, (SameYard.refl t).touchesWalked]

theorem settle_self (s : State) : settle s s = s := (SameYard.refl s).settle

/-- The end of an event in a yard with no ACTIVE roster and no running sweep. -/
theorem retests_inactive (s t : State) (h : t.roster.state ≠ .active) : retests s t = t := by
  simp [retests, h]

end Sys2Proof.Machine
end

