-- ==== Sys2Proof/Laws/Translate.lean ====
section
/-!
SUPPORT. What a translator step does with the oldest code (R172, R173), and what replies and directives write (R170).
-/
namespace Sys2Proof.Machine

/-! The oldest code -/

theorem nextCode_of_head {s : State} {e : CodeEntry} {t : Station}
    (q : s.line.queue.head? = some e) (h : s.station e.address = some t) :
    s.nextCode = some (e, t, codeOf t.kind e.code) := by
  unfold State.nextCode
  cases hq : s.line.queue with
  | nil => simp [hq] at q
  | cons x xs =>
    simp [hq] at q
    subst q
    simp [h]

theorem popCode_frame (s : State) :
    s.popCode = { s with line := { s.line with queue := s.line.queue.tail } } := rfl

@[simp] theorem popCode_station (s : State) (a : Nat) : s.popCode.station a = s.station a := rfl

theorem setAccumulator_eq {s : State} {a : Nat} {t : Station} (e : s.station a = some t) (n : Nat) :
    s.setAccumulator a n = { s with line := { s.line with
      stations := s.line.stations.setIfInBounds (a - 1) (some { t with accumulator := n }) } } :=
  State.modStation_eq e _

theorem numberTaken_eq {s : State} {e : CodeEntry} {t : Station} (h : s.station e.address = some t) :
    s.numberTaken e = { s with line := { s.line with
      queue := s.line.queue.tail
      stations := s.line.stations.setIfInBounds (e.address - 1)
        (some { t with accumulator := 0 }) } } := by
  unfold State.numberTaken
  rw [setAccumulator_eq (s := s.popCode) h]
  rfl

/-- Taking a code leaves everything but the line. -/
theorem numberTaken_frame (s : State) (e : CodeEntry) :
    s.numberTaken e = { s with line := (s.numberTaken e).line } := by
  unfold State.numberTaken State.setAccumulator State.modStation State.putStation
  split
  · split <;> rfl
  · rfl

/-! Replies and directives -/

theorem setReply_frame (s : State) (a : Nat) (r : Reply) :
    s.setReply a r = { s with line := (s.setReply a r).line } := by
  unfold State.setReply State.putStation
  split
  · rfl
  · split
    · rfl
    · by_cases h : a = 0
      · simp only [h, if_true]
        cases s.line.poll with
        | none => rfl
        | some p => dsimp only; split <;> rfl
      · simp only [h, if_false]
        cases hp : (s.setStations _).line.poll with
        | none => rfl
        | some p => dsimp only; split <;> rfl

theorem post_frame (s : State) (a : Nat) (d : Directive) :
    s.post a d = { s with line := (s.post a d).line } := by
  unfold State.post State.putStation
  split
  · rfl
  · by_cases h : a = 0
    · simp only [h, if_true]
      cases s.line.poll with
      | none => rfl
      | some p => dsimp only; split <;> rfl
    · simp only [h, if_false]
      cases hp : (s.setStations _).line.poll with
      | none => rfl
      | some p => dsimp only; split <;> rfl

theorem postAt_frame (s : State) (k : StationKind) (n : Nat) (d : Directive) :
    s.postAt k n d = { s with line := (s.postAt k n d).line } := by
  unfold State.postAt
  cases s.stationOf k n with
  | none => rfl
  | some a => exact post_frame s a d

/-! A function code -/

/-- The codes of the table are what codeOf reads. -/
theorem codeOf_function (kind : StationKind) (b : Byte) (n : Nat) (h : b.toNat = n)
    (d : ¬ (0x30 ≤ n ∧ n ≤ 0x39)) (c : n ≠ 0x1B) : codeOf kind b = functionCode kind n := by
  subst h
  have hb : b ≠ 0x1B := fun hb => c (by subst hb; rfl)
  have hd : within 0x30 0x39 b.toNat = false := by
    simp only [within]
    rw [Bool.and_eq_false_iff]
    simp only [decide_eq_false_iff_not]
    omega
  unfold codeOf
  rw [hd, if_neg (by simp), if_neg hb]

/-- A keyed code that passes every test: its owner acts on the state with the entry taken, the event ends, and the reply is set. -/
theorem translate_owner {s : State} {e : CodeEntry} {t : Station} {kind : StationKind} {n : Nat}
    (k : s.Keyed e t kind n) (c : Code) (owner : Owner) (hc : codeOf kind e.code = c)
    (key : c.keyOn = true → e.key = true)
    (num : c.consumes = true → c ≠ .level → t.accumulator ≠ 0) :
    translate c owner s =
      let s1 := if c.consumes then s.numberTaken e else s.popCode
      (settle s1 (owner s1 e.address t.facility t.accumulator).1).setReply e.address
        (owner s1 e.address t.facility t.accumulator).2 := by
  obtain ⟨b, p, q, st, kd, _⟩ := k
  have hn := nextCode_of_head q st
  rw [kd, hc] at hn
  unfold translate
  rw [if_pos b, hn]
  simp only [if_true]
  unfold State.handleCode
  have h1 : (c.keyOn && !e.key) = false := by
    cases hk : c.keyOn
    · rfl
    · simp [key hk]
  have h2 : (c.consumes && t.accumulator == 0 && c != .level) = false := by
    cases hk : c.consumes
    · rfl
    · by_cases hl : c = .level
      · simp [hl]
      · simp [num hk hl]
  have h3 : s.popCode.phase = .opened := p
  simp only [h1, h2, h3]
  rfl

/-- A code that is not the oldest one, or comes with no code, does nothing. -/
theorem translate_other {s : State} {c : Code} (owner : Owner)
    (h : ∀ e t, s.nextCode ≠ some (e, t, c)) : translate c owner s = s := by
  unfold translate
  split
  · cases hn : s.nextCode with
    | none => rfl
    | some x =>
      obtain ⟨e, t, c'⟩ := x
      dsimp only
      rw [if_neg]
      intro hc
      subst hc
      exact h e t hn
  · rfl

end Sys2Proof.Machine
end

