-- ==== Sys2Proof/Laws/Yard.lean ====
section
/-!
SUPPORT. The laws of records, places and locks (R34, R43, R77, R89, R101, R110, R123, R124, R158): what they read, and what follows from them for one record.
-/
namespace Sys2Proof.Machine

/-! What the laws read -/

/-- The blocks that LinkLaw and YardLaw read are the same in two states. -/
structure SameRecords (s t : State) : Prop where
  register : t.register = s.register
  visits : t.visits = s.visits
  exitHeld : t.router.exitHeld = s.router.exitHeld
  apron : t.router.apron = s.router.apron
  islands : t.islands = s.islands
  diesel : t.diesel.committed = s.diesel.committed
  gas : t.gas.committed = s.gas.committed
  washes : t.washes = s.washes
  lanes : t.lanes = s.lanes
  duties : t.roster.duties = s.roster.duties

theorem SameRecords.linkLaw {s t : State} (e : SameRecords s t) (h : s.LinkLaw) : t.LinkLaw := by
  obtain ⟨er, ev, -⟩ := e
  cases s
  cases t
  simp only at er ev
  subst er ev
  exact h

/-- A step that writes none of these blocks keeps the laws. -/
theorem SameRecords.yardLaw {s t : State} (e : SameRecords s t) (h : s.YardLaw) : t.YardLaw := by
  obtain ⟨er, ev, ex, ea, ei, ed, eg, ew, el, eu⟩ := e
  obtain ⟨p, w, i, c, x, l, k⟩ := h
  have tanks : ∀ k, (t.tank k).committed = (s.tank k).committed := fun k => by
    cases k
    · exact ed
    · exact eg
  have c' : ∀ k, (t.tank k).committed = ((oneTo 6).map fun n => match s.island n with
      | some i => if i.fuel = k then (i.turn.map (·.limit)).getD 0 else 0
      | none => 0).sum := fun k => (tanks k).trans (c k)
  clear c tanks ed eg
  obtain ⟨sb, sc, sp, st, sbe, scl, sr, scu, sv, ⟨sx, sa, sq, sn⟩, si, sd, sg, sw, sl,
    ⟨s1, s2, s3, su, s4, s5, s6, s7⟩, sli, spo, sat, spe⟩ := s
  obtain ⟨tb, tc, tp, tt, tbe, tcl, tr, tcu, tv, ⟨tx, ta, tq, tn⟩, ti, td, tg, tw, tl,
    ⟨t1, t2, t3, tu, t4, t5, t6, t7⟩, tli, tpo, tat, tpe⟩ := t
  simp only at er ev ex ea ei ew el eu
  subst er ev ex ea ei ew el eu
  exact ⟨p, w, i, c', x, l, k⟩

theorem SameRecords.takeRequest (s : State) (a : Answer) : SameRecords s (s.takeRequest a) :=
  ⟨rfl, rfl, rfl, rfl, rfl, rfl, rfl, rfl, rfl, rfl⟩

theorem SameRecords.setLine (s : State) (x : Line) : SameRecords s (s.setLine x) :=
  ⟨rfl, rfl, rfl, rfl, rfl, rfl, rfl, rfl, rfl, rfl⟩

theorem SameRecords.setClock (s : State) (x : Clock) : SameRecords s (s.setClock x) :=
  ⟨rfl, rfl, rfl, rfl, rfl, rfl, rfl, rfl, rfl, rfl⟩

theorem SameRecords.setAttention (s : State) (x : Attention) : SameRecords s (s.setAttention x) :=
  ⟨rfl, rfl, rfl, rfl, rfl, rfl, rfl, rfl, rfl, rfl⟩

theorem SameRecords.reportCapacity (s : State) : SameRecords s s.reportCapacity :=
  ⟨rfl, rfl, rfl, rfl, rfl, rfl, rfl, rfl, rfl, rfl⟩

theorem SameRecords.trans {s t u : State} (a : SameRecords s t) (b : SameRecords t u) : SameRecords s u :=
  ⟨b.1.trans a.1, b.2.trans a.2, b.3.trans a.3, b.4.trans a.4, b.5.trans a.5, b.6.trans a.6,
    b.7.trans a.7, b.8.trans a.8, b.9.trans a.9, b.10.trans a.10⟩

/-- A directive changes nothing that the laws read. -/
theorem SameRecords.post (s : State) (a : Nat) (d : Directive) : SameRecords s (s.post a d) := by
  unfold State.post
  split
  · exact ⟨rfl, rfl, rfl, rfl, rfl, rfl, rfl, rfl, rfl, rfl⟩
  · have p : ∀ x, SameRecords s (s.putStation a x) := fun x => by
      unfold State.putStation
      split <;> exact ⟨rfl, rfl, rfl, rfl, rfl, rfl, rfl, rfl, rfl, rfl⟩
    dsimp only
    split
    · split
      · exact (p _).trans (.setLine _ _)
      · exact p _
    · exact p _

theorem SameRecords.postAt (s : State) (k : StationKind) (n : Nat) (d : Directive) :
    SameRecords s (s.postAt k n d) := by
  unfold State.postAt
  split
  · exact .post _ _ _
  · exact ⟨rfl, rfl, rfl, rfl, rfl, rfl, rfl, rfl, rfl, rfl⟩

/-! What follows for one record -/

/-- A live record has a profile: its vehicle's entry is in the register. -/
theorem State.LinkLaw.profile {s : State} (l : s.LinkLaw) {h : Nat} {v : Visit}
    (e : s.visit h = some v) : ∃ p, s.profile h = some p := by
  obtain ⟨x, hx, -⟩ := l.2 h v e
  exact ⟨_, by simp only [State.profile, e, hx]; rfl⟩

/-- A record with a transit timer stands in no place. -/
theorem Visit.Placed.of_timer {v : Visit} (p : v.Placed) (t : v.timer ≠ none) :
    v.place = none ∧ v.movement = none := by
  unfold Visit.Placed at p
  cases hs : v.state <;> simp only [hs] at p <;> first
    | exact ⟨p.1.1, p.1.2.2⟩
    | exact absurd p.1.2 t

/-- A record named in a list is live and stands in that list's place. -/
theorem State.PlaceLaw.of_mem {s : State} (l : s.PlaceLaw) {p : Place} {h : Nat}
    (m : h ∈ s.listAt p) : ∃ v, s.visit h = some v ∧ v.Placed ∧ v.place = some p := by
  cases e : s.visit h with
  | none => exact absurd e ((l.2 p).2 h m)
  | some v => exact ⟨v, rfl, (l.1 h v e).1, ((l.1 h v e).2 p).2 m⟩

theorem State.mem_sent {s : State} {g : Target} {h : Nat} :
    h ∈ s.sent g ↔ ∃ v, s.visit h = some v ∧ v.sentTo g = true := by
  simp only [State.sent, State.live, upTo, Config.visitSlots, List.mem_filter, List.mem_range]
  constructor
  · rintro ⟨⟨-, live⟩, there⟩
    cases e : s.visit h with
    | none => simp [e] at live
    | some v => exact ⟨v, rfl, by simpa [e] using there⟩
  · rintro ⟨v, e, there⟩
    exact ⟨⟨State.visit_lt e, by simp [e]⟩, by simpa [e] using there⟩

end Sys2Proof.Machine
end

