-- ==== Sys2Proof/Tests/Slice0.lean ====
section
/-!
SUPPORT. The model's own tests: ill-formed commands that the check refuses, frames written out from 11.1 and 11.3, and for every statement a state and operands that meet its hypotheses, each clause at the edge of its range.
-/
namespace Sys2Proof.Tests
open Sys2Proof Sys2Proof.Machine
set_option Elab.async false

/-! One ill-formed command for each check of WellFormed -/

theorem test_oneByte_refused : (Instr.laneRead 256).wellFormed = false := by decide
theorem test_twoBytes_refused : (Instr.seek 65536).wellFormed = false := by decide
theorem test_threeBytes_refused : (Instr.setClock 16777216 0).wellFormed = false := by decide
theorem test_signedByte_refused :
    (Instr.trimClock 128).wellFormed = false ∧ (Instr.trimClock (-129)).wellFormed = false := by
  decide
theorem test_line_refused : (Instr.laneMouthPassage 48).wellFormed = false := by decide
theorem test_handle_refused : (Instr.transitExpiry 128).wellFormed = false := by decide
theorem test_island_refused :
    (Instr.idleExpiry 0).wellFormed = false ∧ (Instr.idleExpiry 7).wellFormed = false := by decide
theorem test_washLane_refused :
    (Instr.dripExpiry 0).wellFormed = false ∧ (Instr.dripExpiry 4).wellFormed = false := by decide
theorem test_emptyFrame_refused : (Instr.malformedRequest []).wellFormed = false := by decide
theorem test_readFrame_refused : (Instr.requestWhileInHand [0, 1]).wellFormed = false := by decide
theorem test_noByteRead_refused : (Instr.answerRead 0).wellFormed = false := by decide
theorem test_voidEnding_refused : (Instr.islandConfirm 1 2 0).wellFormed = false := by decide

/-! Frames written out byte by byte -/

theorem test_frame_status : decodeFrame [0x01, 0x00, 0xFF] = .request .status := by decide
theorem test_frame_laneUndefine :
    decodeFrame [0x10, 0x05, 0x03, 0x01, 0x00, 0x00, 0x00, 0xE7] = .request (.laneUndefine 3) := by
  decide
theorem test_frame_laneDefine :
    decodeFrame [0x10, 0x05, 0x04, 0x00, 0x01, 0x00, 0x0C, 0xDA] = .request (.laneDefine 4 1 12) := by
  decide
theorem test_frame_trimClock :
    decodeFrame [0x1C, 0x01, 0xFF, 0xE4] = .request (.trimClock (-1)) := by decide
theorem test_frame_add :
    decodeFrame [0x21, 0x0A, 0x12, 0x67, 1, 0, 0x01, 0x2C, 7, 3, 2, 0, 0x22] =
      .request (.add 4711 1 0 300 7 3 2 0) := by decide
theorem test_frame_setClock :
    decodeFrame [0x1B, 0x05, 0x01, 0x51, 0x7F, 0x00, 0x07, 0x08] = .request (.setClock 86399 7) := by
  decide
theorem test_frame_badCheck : decodeFrame [0x01, 0x00, 0xFE] = .badCheck 0x01 := by decide
theorem test_frame_unknown : decodeFrame [0x03, 0x00, 0xFD] = .unknownCode 0x03 := by decide
theorem test_frame_badLength : decodeFrame [0x01, 0x01, 0x00, 0xFE] = .badLength 0x01 := by decide
theorem test_frame_badMode : decodeFrame [0x12, 0x02, 1, 2, 0xE9] = .badMode 0x12 := by decide
theorem test_frame_answerRead : decodeFrame [0x00] = .noRequest := by decide

/-! Small states -/

/-- SETUP after a passed table check. -/
def setup : State := { State.reset with boot := .running }

def bus (fleet : Nat) : Entry :=
  { fleet := fleet, fuel := .diesel, length := .standard, tankSize := 300, interval := 7, age := 3,
    program := 2, barred := false, inYard := none }

/-- Two vehicles; 12 is in the yard with handle 0. -/
def fleet : List Entry := [{ bus 12 with inYard := some 0 }, bus 4711]

def stackLane : Lane :=
  { kind := .stack, capacity := 2, state := .opened, list := [], used := 0, reserved := 0,
    mouth := none, far := none }

def dieselIsland : Island :=
  { fuel := .diesel, state := .opened, queue := [], reserved := 0, turn := none, last := none }

def washLane : WashLane :=
  { state := .opened, machineReady := false, startPosted := false, entryLock := none, reserved := 0,
    list := [], drip := none, exitTarget := none }

def station (kind : StationKind) (facility : Nat) : Station :=
  { kind := kind, facility := facility, presence := .unknown, missed := 0, last := none,
    accumulator := 0, pendingLevel := none, pendingDefect := false, directive := .blank,
    reply := none }

def record (fleet : Nat) (x : VisitState) (place : Option Place) (target : Option Target) : Visit :=
  { fleet := fleet, state := x, place := place, target := target, timer := none, movement := none,
    arrivalSecond := 0, arrivalDay := 0, need := none, taken := 0, progress := 0,
    fuelResult := .full, washResult := .full, skipFuel := false, skipWash := false,
    holds := ⟨false, false, false, false⟩, duty := none }

/-- An open yard: lane 1 STACK, lane 2 THROUGH, island 1, wash lane 1, a station of each kind at addresses 1 to 5, one line of each role at lines 0 to 4, and the fleet. -/
def yard : State := { setup with
  phase := .opened
  clock := { setup.clock with isSet := true }
  register := fleet
  lanes := (setup.lanes.setIfInBounds 0 (some stackLane)).setIfInBounds 1
    (some { stackLane with kind := .through })
  islands := setup.islands.setIfInBounds 0 (some dieselIsland)
  washes := setup.washes.setIfInBounds 0 (some washLane)
  diesel := { setup.diesel with stock := 9000, lowFlag := false, reserveFlag := false }
  beams := ((((setup.beams.setIfInBounds 0 ⟨.laneMouth 1, true, false⟩).setIfInBounds 1
    ⟨.laneEntry 2, true, false⟩).setIfInBounds 2 ⟨.laneExit 2, true, false⟩).setIfInBounds 3
    ⟨.washEntry 1, true, false⟩).setIfInBounds 4 ⟨.washExit 1, true, false⟩
  line := { setup.line with
    stations := ((((setup.line.stations.setIfInBounds 0 (some (station .gateIn 0))).setIfInBounds 1
      (some (station .gateOut 0))).setIfInBounds 2 (some (station .island 1))).setIfInBounds 3
      (some (station .wash 1))).setIfInBounds 4 (some (station .lanePost 1)) } }

/-- A record in slot h. -/
def seat (s : State) (h : Nat) (v : Visit) : State :=
  { s with visits := s.visits.setIfInBounds h (some v) }

/-- A code in front of the queue, with the number keyed before it. -/
def keyed (s : State) (t : Station) (e : CodeEntry) : State :=
  { s with line := { s.line with
    queue := [e]
    stations := s.line.stations.setIfInBounds (e.address - 1) (some t) } }

/-- The kind of station at a fixed address with a number keyed. -/
def post (kind : StationKind) (number : Nat) : Station :=
  { station kind (match kind with | .gateIn | .gateOut => 0 | _ => 1) with accumulator := number }

def duty (number pullOut : Nat) (x : DutyState) (bound : Option Nat) : Duty :=
  { number := number, pullOut := pullOut, length := .standard, fuelSet := .either, state := x,
    bound := bound, swapped := false }

def roster (s : State) (x : RosterState) (duties : List Duty) : State :=
  { s with roster := { s.roster with state := x, releaseEnd := 30000, duties := duties } }

/-- Vehicle 12 PARKED alone in lane 1, with handle 0. -/
def parked : State :=
  { seat yard 0 (record 12 .parked (some (.lane 1)) none) with
    lanes := yard.lanes.setIfInBounds 0 (some { stackLane with list := [0], used := 1 }) }

/-! Witnesses: the queue, the port, power, the clock -/

theorem test_StepTakesFrontCommand : State.reset.pending = [] := by decide

theorem test_RequestsMeetInHandBootAndPhase :
    requestPhases .status = some inAll ∧ encodeArgs .status = some (0x01, []) ∧
    requestPhases (.trimClock 1) = some inOpen ∧ encodeArgs (.trimClock 1) = some (0x1C, [1]) ∧
    (setup.takeRequest ⟨1, .ok, []⟩).port.inHand ≠ none ∧
    State.reset.port.inHand = none ∧ State.reset.boot = .checking ∧
    setup.port.inHand = none ∧ setup.boot = .running ∧ inOpen setup.phase = false :=
  ⟨rfl, rfl, rfl, rfl, by decide, rfl, rfl, rfl, rfl, rfl⟩

/-- A request with a wrong check and a MORE with one, during the table check. -/
theorem test_MalformedRequestDuringTheCheck :
    (∀ i, decodeFrame [0x01, 0x00, 0xFE] ≠ .request i) ∧
    (∀ i, decodeFrame [0x02, 0x00, 0xFF] ≠ .request i) := by
  have h1 : decodeFrame [0x01, 0x00, 0xFE] = .badCheck 0x01 := by decide
  have h2 : decodeFrame [0x02, 0x00, 0xFF] = .badCheck 0x02 := by decide
  refine ⟨?_, ?_⟩ <;> intro i h
  · exact Frame.noConfusion (h1.symm.trans h)
  · exact Frame.noConfusion (h2.symm.trans h)

theorem test_MalformedRequestIsAnswered :
    setup.boot = .running ∧ setup.port.inHand = none ∧
    ([0x01, 0x00] : List Byte).length ≠ (0 : Byte).toNat + 3 ∧
    byteSum [0x01, 0x00, 0xFE] ≠ 0 ∧
    byteSum [0x03, 0x00, 0xFD] = 0 ∧ argLength 0x03 = none ∧
    byteSum [0x01, 0x01, 0x00, 0xFE] = 0 ∧ argLength 0x01 = some 0 ∧
    decodeFrame [0x12, 0x02, 1, 2, 0xE9] = .badMode 0x12 := by decide

/-- A held frame of five bytes, read whole, read but for its last byte, and no frame held; a part left, and none. -/
theorem test_AnswersAreHeldReadAndContinued :
    (setup.takeRequest ⟨1, .ok, [7]⟩).port.inHand = some ⟨1, .ok, [7]⟩ ∧
    (let s := setup.setPort { setup.port with held := some [1, 0, 1, 7, 0xF7] }
     s.boot ≠ .resetLow ∧ s.port.held = some [1, 0, 1, 7, 0xF7] ∧ [1, 0, 1, 7, 0xF7].length ≤ 5 ∧
     4 < [1, 0, 1, 7, 0xF7].length) ∧
    setup.port.held = none ∧
    (let s := setup.setPort { setup.port with rest := some ⟨1, .ok, [7]⟩ }
     s.Takes inBoth ∧ s.port.rest = some ⟨1, .ok, [7]⟩) ∧
    setup.Takes inBoth ∧ setup.port.rest = none := by decide +kernel

theorem test_PowerAndResetLeavePowerOnValues :
    ({ State.reset with boot := .resetLow } : State).boot = .resetLow ∧
    State.reset.boot = .checking := by decide

theorem test_SecondEventAdvancesTheClock :
    (let s := setup.setClock { setup.clock with second := 86398 }
     s.boot = .running ∧ s.clock.second ≤ 86399 ∧ s.clock.second < 86399) ∧
    (let s := setup.setClock { setup.clock with second := 86399 }
     s.boot = .running ∧ s.clock.second = 86399) ∧
    (let s := { setup with phase := .halted }
     s.boot = .running ∧ s.phase = .halted) := by decide +kernel

/-- Nothing is due in a part with no record, no turn and no drip. -/
theorem setup_nothingDue (s : State) (x : Roster) (hx : x.closeDue = false)
    (hm : x.missesDue = []) (hc : x.checksDue = []) (h1 : s.visits = setup.visits)
    (h2 : s.islands = setup.islands) (h3 : s.washes = setup.washes) (h4 : s.roster = x) :
    s.NothingDue := by
  have slot {α : Type} {n : Nat} (k : Nat) (x : α) :
      slotGet (Vector.replicate n (none : Option α)) k ≠ some x := by
    unfold slotGet
    by_cases hk : k < n <;> simp [hk]
  refine ⟨by simp [h4, hx], by simp [h4, hm], by simp [h4, hc], ?_, ?_, ?_⟩
  · intro h v hv
    rw [State.visit, h1] at hv
    exact (slot _ v hv).elim
  · intro n i t hi
    rw [State.island, h2] at hi
    split at hi
    · cases hi
    · exact absurd hi (slot _ i)
  · intro n w hw
    rw [State.wash, h3] at hw
    split at hw
    · cases hw
    · exact absurd hw (slot _ w)

theorem test_SecondEventCountsTimersAndCompares :
    let s := (roster setup .active [duty 1 500 .bound none]).setClock
      { setup.clock with second := 86398 }
    s.boot = .running ∧ s.phase ≠ .halted ∧ s.NothingDue ∧ s.clock.second < 86399 :=
  ⟨rfl, by decide, setup_nothingDue _ _ rfl rfl rfl rfl rfl rfl rfl, by decide⟩

/-- The new day is the roster day, is another, and finds the roster ACTIVE or EMPTY. -/
theorem test_DayTurnAgesAndTurnsTheRoster :
    let late : Nat → RosterState → State := fun day x =>
      { setup with
        clock := { setup.clock with second := 86399, day := 65535 }
        roster := { setup.roster with state := x, day := day } }
    (∀ day x, (late day x).boot = .running ∧ (late day x).phase ≠ .halted ∧
      (late day x).NothingDue ∧ (late day x).clock.second = 86399) ∧
    (late 0 .armed).roster.day = ((late 0 .armed).clock.day + 1) % 65536 ∧
    (late 1 .armed).roster.day ≠ ((late 1 .armed).clock.day + 1) % 65536 ∧
    (late 0 .active).roster.state = .active ∧ (late 0 .empty).roster.state ≠ .armed ∧
    (late 0 .empty).roster.state ≠ .active ∧ (late 0 .armed).secondEvent.roster.state = .active ∧
    (late 1 .armed).secondEvent.roster.state ≠ .active ∧ (late 0 .armed).roster.releaseEnd = 0 :=
  ⟨fun _ _ => ⟨rfl, by simp [setup, State.reset], setup_nothingDue _ _ rfl rfl rfl rfl rfl rfl rfl, rfl⟩, by decide, by decide, rfl,
    by decide, by decide, by decide +kernel, by decide +kernel, rfl⟩

theorem test_ClockIsSetAndTrimmed :
    setup.Takes inSetup ∧ (86399 < 86400 ∨ 65535 < 0) ∧ (86399 < 0 ∨ 65535 < 65536) ∧
    (setup.roster.state ≠ .armed ∧ setup.roster.state ≠ .active) ∧
    (let s := roster setup .armed []
     s.Takes inSetup ∧ 86399 ≤ 86399 ∧ 65535 ≤ 65535 ∧ s.roster.state = .armed) ∧
    yard.Takes inOpen ∧ (-61 : Int) < -60 ∧ (60 : Int) < 61 ∧ (yard.clock.second : Int) + -1 < 0 ∧
    (let s := yard.setClock { yard.clock with second := 86398 }
     s.Takes inOpen ∧ (86399 : Int) < s.clock.second + 2 ∧ 0 ≤ (s.clock.second : Int) + 1 ∧
     (s.clock.second : Int) + 1 ≤ 86399) := by decide +kernel

/-- A TRIM CLOCK between the second event and the expiry: the settlement shows the second that the event made. -/
theorem test_expiryReadsTheSecondOfItsEvent :
    let c : Clock := { yard.clock with second := 40, eventSecond := 10 }
    let v := record 12 (.atIsland .atPump) (some (.island 1)) none
    let i := { dieselIsland with
      queue := [0]
      turn := some { state := .atPump, limit := 100, idle := some 0, overrun := false } }
    let s := { seat yard 0 v with
      clock := c, islands := yard.islands.setIfInBounds 0 (some i) }
    (s.idleExpiry 1).clock = c ∧
    ((s.idleExpiry 1).lastSettlement 1).map (·.second) = some 10 := by decide +kernel

/-! Witnesses: the register, the reads -/

theorem test_SearchByHalvingFindsTheEntry :
    fleet.Pairwise (fun a b => a.fleet < b.fleet) ∧ fleet.length ≤ 256 ∧
    lookup fleet 12 = .found 0 { bus 12 with inYard := some 0 } ∧ lookup fleet 11 = .notFound 0 ∧
    lookup fleet 9999 = .notFound 2 := by decide +kernel

/-- A table with n entries. -/
def full (n : Nat) : State := { setup with register := (List.range n).map fun k => bus (k + 1) }

theorem test_AddInsertsTheVehicle :
    (full 256).Takes inBoth ∧ (full 255).Takes inBoth ∧
    ¬ (1 ≤ 0 ∧ 0 ≤ 9999) ∧ ¬ (1 ≤ 10000 ∧ 10000 ≤ 9999) ∧
    lookup (full 256).register 1 = .found 0 (bus 1) ∧
    lookup (full 256).register 9999 = .notFound 256 ∧ 256 ≤ (full 256).register.length ∧
    lookup (full 255).register 9999 = .notFound 255 ∧ (full 255).register.length < 256 := by
  decide +kernel

theorem test_RemoveTakesTheVehicleOut :
    yard.Takes inBoth ∧ ¬ (1 ≤ 0 ∧ 0 ≤ 9999) ∧ ¬ (1 ≤ 10000 ∧ 10000 ≤ 9999) ∧
    lookup yard.register 1 = .notFound 0 ∧ lookup yard.register 9999 = .notFound 2 ∧
    lookup yard.register 12 = .found 0 { bus 12 with inYard := some 0 } ∧
    lookup yard.register 4711 = .found 1 (bus 4711) ∧ (bus 4711).inYard = none := by decide +kernel

theorem test_UpdateAndWashAgeSetReplaceTheirFields :
    yard.Takes inBoth ∧ lookup yard.register 12 = .found 0 { bus 12 with inYard := some 0 } ∧
    lookup yard.register 4711 = .found 1 (bus 4711) ∧
    ({ bus 12 with inYard := some 0 } : Entry).inYard ≠ none ∧ FuelKind.gas ≠ (bus 12).fuel ∧
    (bus 4711).inYard = none ∧ (1 : Nat) ≤ 1000 ∧ (15 : Nat) ≤ 15 ∧ (8 : Nat) ≤ 8 ∧
    (255 : Nat) ≤ 255 ∧ lookup yard.register 9999 = .notFound 2 ∧ ¬ (1 ≤ 0 ∧ 0 ≤ 9999) ∧
    (255 : Nat) < 256 := by decide +kernel

theorem test_ReadNextAndSeekMoveTheCursor :
    yard.Takes inBoth ∧ yard.register[yard.cursor]? = some { bus 12 with inYard := some 0 } ∧
    (let s := { yard with cursor := 2 }
     s.Takes inBoth ∧ s.register.length ≤ s.cursor) ∧
    ¬ (1 ≤ 0 ∧ 0 ≤ 9999) ∧ ¬ (1 ≤ 10000 ∧ 10000 ≤ 9999) ∧
    lookup yard.register 1 = .notFound 0 ∧ lookup yard.register 9999 = .notFound 2 ∧
    lookup yard.register 4711 = .found 1 (bus 4711) := by decide +kernel

/-- Records in slots 0 and 127. -/
theorem test_RecordReadsAnswerTheirItem :
    let v := record 12 .parked (some (.lane 1)) none
    let s := seat parked 127 (record 4711 .apron (some .apron) none)
    s.boot = .running ∧ s.port.inHand = none ∧ s.Takes inBoth ∧ s.Takes inOpen ∧
    lookup s.register 12 = .found 0 { bus 12 with inYard := some 0 } ∧
    lookup s.register 9999 = .notFound 2 ∧ ¬ (1 ≤ 0 ∧ 0 ≤ 9999) ∧ ¬ (1 ≤ 10000 ∧ 10000 ≤ 9999) ∧
    s.inYardOf 12 = some 0 ∧ s.visit 0 = some v ∧ s.inYardOf 4711 = none ∧
    (∀ j, 0 ≤ j → j < 0 → s.visit j = none) ∧
    s.visit 127 = some (record 4711 .apron (some .apron) none) ∧ parked.visit 127 = none ∧
    (127 : Nat) < 128 := by
  refine ⟨rfl, rfl, by decide, by decide, by decide +kernel, by decide +kernel, by decide, by decide,
    by decide +kernel, by decide +kernel, by decide +kernel, fun j _ h => absurd h (by omega),
    by decide +kernel, by decide +kernel, by decide⟩

theorem test_RecordScanFindsTheLastSlot :
    let s := seat yard 127 (record 12 .apron (some .apron) none)
    (∀ j, j < 127 → s.visit j = none) ∧ (∀ j, j < 128 → yard.visit j = none) := by decide +kernel

theorem test_FacilityReadsAnswerTheirItem :
    yard.Takes inOpen ∧ yard.Takes inBoth ∧ (2 : Nat) ≤ 2 ∧ (7 : Nat) ≤ 7 ∧ yard.lane 1 = some stackLane ∧
    parked.visit 0 = some (record 12 .parked (some (.lane 1)) none) ∧
    parked.entry 12 = some { bus 12 with inYard := some 0 } ∧
    yard.stationOf .lanePost 1 = some 5 ∧ yard.lineOf (.laneExit 2) = some 2 := by decide +kernel

/-! Witnesses: the end of an event, records -/

theorem test_EndOfEventTouchesOnlyDutiesAndCalls :
    yard.Quiet ∧ yard.visit 0 = none ∧
    parked.visit 0 = some (record 12 .parked (some (.lane 1)) none) ∧
    (record 12 .astray none none).standing = false ∧
    (yard.lane 1) = some stackLane ∧
    (roster yard .active [duty 1 500 .opened none]).duty 0 = some (duty 1 500 .opened none) ∧
    (duty 1 500 .opened none).state.reason = none ∧
    (let s := roster yard .active [duty 1 500 (.held .blocked) (some 0)]
     s.roster.state = .active ∧ s.duty 0 = some (duty 1 500 (.held .blocked) (some 0)) ∧
     triggered yard s 0 = true) ∧
    (roster yard .active [duty 1 500 .opened none]).isHeld 0 = false ∧
    yard.station 16 = none ∧ yard.station 5 = some (station .lanePost 1) ∧
    yard.station 1 = some (station .gateIn 0) ∧ (station .gateIn 0).kind ≠ .lanePost ∧
    yard.line.poll = none ∧
    (let p : Poll := ⟨5, .blank, none, true, false⟩
     let s : State := { yard with line := { yard.line with poll := some p } }
     s.line.poll = some p ∧ p.posted = true) := by decide +kernel

/-- Vehicle 12 CALLED for duty 0 from lane 1. -/
def called : State :=
  let s := { seat parked 0 { record 12 .called (some (.lane 1)) none with
      movement := some .gate, duty := some 0 } with
    lanes := yard.lanes.setIfInBounds 0 (some { stackLane with
      list := [0], used := 1, mouth := some (.outbound 0 .gate) }) }
  roster s .active [duty 1 500 .called (some 0)]

theorem test_HoldsAreSetAndCleared :
    parked.Takes inOpen ∧ parked.visit 0 = some (record 12 .parked (some (.lane 1)) none) ∧
    ((127 : Nat) < 128 ∧ (2 : Nat) ≤ 2 ∧ (4 : Nat) ≤ 4 ∧ parked.visit 127 = none) ∧
    holdOf 0 = some .defect ∧ holdOf 1 = some .dispatch ∧ holdOf 3 = some .fuelUnconfirmed ∧
    (let v := { record 12 .called (some (.lane 1)) none with movement := some .gate, duty := some 0 }
     called.Takes inOpen ∧ called.visit 0 = some v ∧ v.state = .called ∧
     ({ v with holds := v.holds.put true .defect } : Visit).ready = false ∧
     ({ v with holds := v.holds.put false .defect } : Visit).ready = true ∧
     v.place = some (.lane 1) ∧
     (called.lane 1).bind (·.exitLock) = some (.outbound 0 .gate) ∧
     called.duty 0 = some (duty 1 500 .called (some 0))) ∧
    (let e : CodeEntry := ⟨5, 0x44, true⟩
     let s := keyed parked (post .lanePost 12) e
     s.Keyed e (post .lanePost 12) .lanePost 0x44 ∧ e.key = true ∧
     s.lane 1 = some { stackLane with list := [0], used := 1 } ∧ s.inYardOf 12 = some 0) ∧
    (let e : CodeEntry := ⟨5, 0x4B, true⟩
     let s := keyed yard (post .lanePost 9999) e
     s.Keyed e (post .lanePost 9999) .lanePost 0x4B ∧ s.entry 9999 = none ∧
     s.entry 4711 = some (bus 4711)) ∧
    (∀ h, (bus 4711).inYard = some h → h ∉ ([] : List Nat)) :=
  ⟨by decide, by decide +kernel, by decide +kernel, rfl, rfl, rfl, by decide +kernel,
    by decide +kernel, by decide +kernel, fun h hh => by cases hh⟩

theorem test_RouteFlagsReplaceBothFlags :
    parked.Takes inOpen ∧ parked.visit 0 = some (record 12 .parked (some (.lane 1)) none) ∧
    (record 12 .parked (some (.lane 1)) none).state ≠ .called ∧
    ({ record 12 .called (some (.lane 1)) none with skipFuel := true, skipWash := true } :
      Visit).ready = true ∧ (2 : Nat) ≤ 255 ∧
    (let v := { record 12 .called (some (.lane 1)) none with
       fuelResult := .owed, skipFuel := true, movement := some .gate, duty := some 0 }
     let s := seat called 0 v
     s.Takes inOpen ∧ s.visit 0 = some v ∧ v.state = .called ∧ v.ready = true ∧
     ({ v with skipFuel := false } : Visit).ready = false ∧ v.place = some (.lane 1) ∧
     (s.lane 1).bind (·.exitLock) = some (.outbound 0 .gate) ∧
     s.duty 0 = some (duty 1 500 .called (some 0))) := by decide +kernel

/-- A record on its way to island 1, wash lane 1 and lane 1, its timer at 0 and at 1. -/
theorem test_TransitExpiryLosesTheRecord :
    let v : VisitState → Target → Visit := fun x t =>
      { record 12 x none (some t) with timer := some 0 }
    let w := { washLane with entryLock := some 0, reserved := 1 }
    let l := { stackLane with mouth := some (.inbound 0), reserved := 1 }
    let s := { seat yard 0 (v .toIsland (.island 1)) with
      washes := yard.washes.setIfInBounds 0 (some w), lanes := yard.lanes.setIfInBounds 0 (some l) }
    s.boot = .running ∧ s.visit 0 = some (v .toIsland (.island 1)) ∧
    (v .toIsland (.island 1)).standing = false ∧ s.island 1 = some dieselIsland ∧
    s.wash 1 = some w ∧ (v .toWash (.wash 1)).standing = false ∧ s.lane 1 = some l ∧
    l.entryLock = some (.inbound 0) ∧ (v .toBerth (.lane 1)).standing = false ∧
    (v .toGate .gate).target = some .gate ∧
    ({ v .toIsland (.island 1) with timer := some 1 } : Visit).timer ≠ some 0 := by decide +kernel

/-- Room for exactly one unit in lane 1 and for one record on the apron; a DEPARTING duty. -/
theorem test_LocatePlacesTheAstrayRecord :
    let v := { record 12 .astray none none with duty := some 0 }
    let l := { stackLane with list := [1], used := 1 }
    let s := roster { seat yard 0 v with
      lanes := yard.lanes.setIfInBounds 0 (some l)
      router := { yard.router with apron := List.replicate 15 ⟨1, .berth, .apron, 0⟩ } } .active
      [duty 1 500 .departing (some 0)]
    s.Takes inOpen ∧ s.visit 0 = some v ∧ v.state = .astray ∧ s.lane 1 = some l ∧ l.state ≠ .shut ∧
    l.exitLock = none ∧ s.unitsOf 0 ≤ l.capacity - l.used - l.reserved ∧
    s.router.apron.length < 16 ∧ s.duty 0 = some (duty 1 500 .departing (some 0)) ∧
    s.roster.state = .active ∧ (roster s .closed s.roster.duties).roster.state ≠ .active := by
  decide +kernel

/-- What LOCATE is refused for, at the edge: no such handle, lane or record; a record that is not ASTRAY; a lane SHUT, locked, or full by one unit; a full apron. -/
theorem test_LocateIsRefused :
    let l := { stackLane with list := [1, 2], used := 2 }
    let s := seat yard 0 (record 12 .astray none none)
    (127 < 128 ∧ 20 < 21 ∧ yard.visit 127 = none ∧ yard.lane 20 = none) ∧
    (parked.visit 0).map (·.state) ≠ some .astray ∧
    ({ l with state := .shut } : Lane).state = .shut ∧
    ({ l with mouth := some (.inbound 1) } : Lane).exitLock ≠ none ∧ l.exitLock = none ∧
    l.state ≠ .shut ∧ l.capacity - l.used - l.reserved < s.unitsOf 0 ∧
    16 ≤ (List.replicate 16 (⟨1, .berth, .apron, 0⟩ : WaitEntry)).length ∧
    (duty 1 500 .bound (some 0)).state ≠ .departing := by
  decide +kernel

theorem test_RetirementFreesTheRecord :
    let gone := { record 12 .toGate none (some .gate) with duty := some 0 }
    let lost := record 12 .astray none none
    let busy := record 12 (.atWash .washing) (some (.wash 1)) none
    let e : CodeEntry := ⟨2, 0x58, false⟩
    let s := keyed (roster (seat yard 0 gone) .active [duty 1 500 .departing (some 0)])
      (post .gateOut 12) e
    (seat yard 0 gone).Takes inOpen ∧ gone.retirable = true ∧ busy.retirable = false ∧
    lost.state = .astray ∧ gone.state ≠ .astray ∧ s.visit 0 = some gone ∧
    s.duty 0 = some (duty 1 500 .departing (some 0)) ∧ s.Keyed e (post .gateOut 12) .gateOut 0x58 ∧
    s.entry 12 = some { bus 12 with inYard := some 0 } ∧ (post .gateOut 12).reply ≠ some .repeatCodes ∧
    busy.state ≠ .toGate ∧ busy.state ≠ .astray := by decide +kernel

/-- A record in each state with what it holds: on its way, AT-PUMP with a turn, at the head of a wash lane with an exit target, in a lane with a movement and without; duties of each row of R65. -/
theorem test_RetirementReleasesHoldings :
    (let v := { record 12 .toBerth none (some (.lane 1)) with duty := some 0 }
     let s := roster { seat yard 0 v with
       lanes := yard.lanes.setIfInBounds 0 (some { stackLane with mouth := some (.inbound 0) }) } .active
       [duty 1 700 .bound (some 0)]
     s.visit 0 = some v ∧ v.target = some (.lane 1) ∧
     (s.lane 1).bind (·.entryLock) = some (.inbound 0) ∧ v.place ≠ some (.lane 1) ∧
     s.duty 0 = some (duty 1 700 .bound (some 0)) ∧
     s.roster.state = .active ∧ ¬ (duty 1 700 .bound (some 0)).pullOut - s.times.callLead ≤ s.clock.second) ∧
    (let t : Turn := { state := .atPump, limit := 100, idle := some 0, overrun := false }
     let i := { dieselIsland with queue := [0], turn := some t }
     let v := record 12 (.atIsland .atPump) (some (.island 1)) none
     let s := { seat yard 0 v with islands := yard.islands.setIfInBounds 0 (some i) }
     s.visit 0 = some v ∧ s.island 1 = some i ∧ i.turn = some t) ∧
    (let w := { washLane with list := [0], startPosted := true, exitTarget := some 1 }
     let v := record 12 (.atWash .queued) (some (.wash 1)) none
     let s := { seat yard 0 v with washes := yard.washes.setIfInBounds 0 (some w) }
     s.visit 0 = some v ∧ s.wash 1 = some w ∧ w.list.head? = some 0 ∧ w.startPosted = true) ∧
    (called.visit 0).map (·.state) = some .called ∧
    (let v := { record 12 .parked (some (.lane 1)) none with movement := some (.lane 2) }
     let l := { stackLane with list := [0], used := 1, mouth := some (.outbound 0 (.lane 2)) }
     let s := { seat yard 0 v with lanes := yard.lanes.setIfInBounds 0 (some l) }
     s.visit 0 = some v ∧ s.lane 1 = some l ∧ l.exitLock = some (.outbound 0 (.lane 2)) ∧
     Target.lane 2 ≠ .lane 1) ∧
    (parked.visit 0).map (·.movement) = some none := by decide +kernel

/-- Every test of RECALL fails on some state, a scan that is due stands before them, and a named and a chosen target of each service. -/
theorem test_RecallSendsTheRecordBack :
    let v := record 12 .parked (some (.lane 1)) none
    let l := { stackLane with list := [0], used := 1 }
    let p : Profile := ⟨.diesel, 1, 86400, false⟩
    let gasIsland := { dieselIsland with fuel := FuelKind.gas }
    parked.Takes inOpen ∧ parked.router.scanPending = false ∧
    ({ parked with router := { parked.router with scanPending := true } } : State).scan.visit 0 =
      some v ∧
    ¬ (128 ≤ 127) ∧ ¬ (7 ≤ 6) ∧ ¬ (4 ≤ 3) ∧ parked.visit 127 = none ∧ parked.island 6 = none ∧
    parked.wash 3 = none ∧ parked.visit 0 = some v ∧ parked.profile 0 = some p ∧
    (record 12 .astray none none).state ≠ .parked ∧ parked.lane 1 = some l ∧
    l.list.head? = some 0 ∧ ({ l with list := [1, 0] } : Lane).list.head? ≠ some 0 ∧
    ({ parked with islands := parked.islands.setIfInBounds 0 (some gasIsland) } : State).island 1 =
      some gasIsland ∧ gasIsland.fuel ≠ p.fuel ∧
    ({ l with state := .shut } : Lane).state = .shut ∧ l.state ≠ .shut ∧ l.exitLock = none ∧
    ({ l with mouth := some (.inbound 1) } : Lane).exitLock ≠ none ∧
    parked.island 1 = some dieselIsland ∧ dieselIsland.state = .opened ∧
    dieselIsland.fuel = p.fuel ∧ dieselIsland.queue.length + dieselIsland.reserved < 4 ∧
    0 < (parked.tank p.fuel).available p.priority ∧ parked.fuelTarget p = some 1 ∧
    parked.wash 1 = some washLane ∧ washLane.state = .opened ∧ washLane.entryLock = none ∧
    washLane.list.length + washLane.reserved < 3 ∧ parked.washTarget = some 1 := by
  decide +kernel

/-- No target: neither service has a facility that is open. -/
theorem test_RecallFindsNoTarget :
    let s : State := { parked with islands := setup.islands, washes := setup.washes }
    s.fuelTarget ⟨.diesel, 1, 86400, false⟩ = none ∧ s.washTarget = none ∧ s.island 0 = none ∧
    s.wash 0 = none := by decide +kernel

/-! Witnesses: the translator, admission, islands -/

theorem test_CodesAreTestedInOrder :
    codeRow .faultClear = some (.wash, 0x5A) ∧ keyOnCode .faultClear = true ∧
    numberCode .faultClear = true ∧ Instr.faultClear ≠ .level ∧
    (let e : CodeEntry := ⟨4, 0x5A, false⟩
     let s := keyed setup (post .wash 0) e
     s.boot = .running ∧ s.line.queue.head? = some e ∧ s.station e.address = some (post .wash 0) ∧
     e.code.toNat = 0x5A ∧ e.key = false ∧ s.phase ≠ .opened) ∧
    (let e : CodeEntry := ⟨4, 0x5A, true⟩
     let s := keyed yard (post .wash 0) e
     e.key = true ∧ s.phase = .opened ∧ s.line.queue.head? = some e ∧
     (post .wash 0).accumulator = 0) := by decide +kernel

theorem test_KeyedEntriesEditTheStation :
    let turn : Turn := { state := .atPump, limit := 100, idle := some 1, overrun := false }
    let at1 := some { dieselIsland with turn := some turn }
    let s := keyed { yard with islands := yard.islands.setIfInBounds 0 at1 } (post .island 9999)
      ⟨3, 0x39, false⟩
    s.boot = .running ∧ s.line.queue.head? = some ⟨3, 0x39, false⟩ ∧
    s.station 3 = some (post .island 9999) ∧ (0x39 : Byte).toNat = 0x30 + 9 ∧
    (0x1B : Byte).toNat = 0x1B ∧
    s.island 1 = some { dieselIsland with turn := some turn } ∧ turn.state ≠ .check ∧
    ({ turn with state := .check } : Turn).state = .check ∧
    ¬ (0x30 ≤ (0x58 : Byte).toNat ∧ (0x58 : Byte).toNat ≤ 0x39) ∧ s.station 6 = none ∧
    (post .island 9999).reply ≠ some .repeatCodes ∧
    (let e : CodeEntry := ⟨1, 0x4C, false⟩
     (keyed yard (post .gateIn 8) e).Keyed e (post .gateIn 8) .gateIn 0x4C ∧
     (post .gateIn 8).accumulator ≤ 8 ∧
     (keyed yard (post .gateIn 9) e).Keyed e (post .gateIn 9) .gateIn 0x4C ∧
     8 < (post .gateIn 9).accumulator) ∧
    (let e : CodeEntry := ⟨1, 0x44, true⟩
     (keyed yard (post .gateIn 0) e).Keyed e (post .gateIn 0) .gateIn 0x44 ∧ e.key = true) := by
  decide +kernel

/-- The byte 0x58 stands in no row of an island terminal. -/
theorem test_undefinedByteIsInNoRow (i : Instr) : codeRow i ≠ some (.island, 0x58) := by
  cases i <;> simp [codeRow]

/-- Vehicle 4711 with no target (no lane), and with lane 1 as its target; unknown, barred, in the yard; no free slot; the apron with room for one and full. -/
theorem test_ArriveAdmitsTheVehicle :
    let e : CodeEntry := ⟨1, 0x41, false⟩
    let s := keyed yard (post .gateIn 4711) e
    let bare := { s with islands := setup.islands, lanes := setup.lanes }
    let apron : Nat → State := fun n =>
      { bare with router := { yard.router with apron := List.replicate n ⟨1, .berth, .apron, 0⟩ } }
    s.Keyed e (post .gateIn 4711) .gateIn 0x41 ∧ (post .gateIn 4711).accumulator ≠ 0 ∧
    s.entry 9999 = none ∧ s.entry 4711 = some (bus 4711) ∧ (bus 4711).barred = false ∧
    ({ bus 4711 with barred := true } : Entry).barred = true ∧ (bus 4711).inYard = none ∧
    (s.entry 12).map (·.inYard) ≠ some none ∧
    (let f := { s with visits := Vector.replicate 128 (some (record 12 .parked none none)) }
     ∀ h, h < 128 → f.visit h ≠ none) ∧
    s.visit 0 = none ∧ (∀ k, k < 0 → s.visit k ≠ none) ∧
    ((s.numberTaken e).dueScan.firstPlacement (bus 4711) none).target = some (.island 1) ∧
    (((apron 15).numberTaken e).dueScan.firstPlacement (bus 4711) none).target = none ∧
    ((apron 15).numberTaken e).dueScan.router.apron.length < 16 ∧
    (((apron 16).numberTaken e).dueScan.firstPlacement (bus 4711) none).target = none ∧
    16 ≤ ((apron 16).numberTaken e).dueScan.router.apron.length := by
  refine ⟨by decide, by decide, by decide +kernel, by decide +kernel, rfl, rfl, rfl,
    by decide +kernel, by decide +kernel, by decide +kernel, fun k h => absurd h (by omega),
    by decide +kernel, by decide +kernel, by decide +kernel, by decide +kernel, by decide +kernel⟩

/-- Two islands of the kind with equal load: the query takes island 1. -/
theorem test_TargetQueriesTakeTheLeastLoad :
    let s := { yard with islands := yard.islands.setIfInBounds 5 (some dieselIsland) }
    s.fuelTarget ⟨.diesel, 1, 86400, false⟩ = some 1 ∧ s.washTarget = some 1 ∧
    s.island 6 = some dieselIsland := by decide +kernel

/-- Each tier of the placement engine: a lane with slack 0, an empty lane, a lane with an inversion to add, no lane. -/
theorem test_PlacementTakesItsTiers :
    let a := { stackLane with list := [0], used := 1 }
    let b := { stackLane with kind := LaneKind.through }
    let s : Nat → Option Lane → State := fun pull two =>
      roster { seat yard 0 { record 12 .parked (some (.lane 1)) none with duty := some 0 } with
        lanes := (yard.lanes.setIfInBounds 0 (some a)).setIfInBounds 1 two } .active
        [duty 1 pull .bound (some 0)]
    (s 500 (some b)).placement 1 500 none = some 1 ∧ (s 500 (some b)).placement 1 501 none = some 2 ∧
    (s 500 none).placement 1 501 none = some 1 ∧ (s 500 none).placement 2 501 none = none ∧
    (s 500 none).placement 1 501 (some 1) = none := by decide +kernel

/-- A turn of the head of island 1, in a state and with an idle count. -/
def turning (x : TurnState) (idle : Option Nat) (i : IslandState) (sub : IslandSub) : State :=
  let s := seat yard 0 { record 12 (.atIsland sub) (some (.island 1)) none with need := some 100 }
  { s with
    diesel := { yard.diesel with committed := 100 }
    islands := yard.islands.setIfInBounds 0 (some { dieselIsland with
      state := i, queue := [0]
      turn := some { state := x, limit := 100, idle := idle, overrun := false } }) }

def turn (x : TurnState) (idle : Option Nat) : Turn :=
  { state := x, limit := 100, idle := idle, overrun := false }

def fuelled (sub : IslandSub) : Visit :=
  { record 12 (.atIsland sub) (some (.island 1)) none with need := some 100 }

theorem test_HereQueuesAndNozzleOutDispenses :
    (let e : CodeEntry := ⟨3, 0x48, false⟩
     let v := record 12 .toIsland none (some (.island 1))
     let s := keyed (seat yard 0 v) (post .island 12) e
     (post .island 12).facility = 1 ∧ s.island 1 = some dieselIsland ∧
     s.Keyed e (post .island 12) .island 0x48 ∧ (post .island 12).accumulator ≠ 0 ∧
     s.inYardOf 12 = some 0 ∧ s.visit 0 = some v ∧ v.state = .toIsland ∧
     v.target = some (.island 1) ∧ s.inYardOf 9999 = none) ∧
    (let e : CodeEntry := ⟨3, 0x4E, false⟩
     let s := fun x sub => keyed (turning x (some 1) .opened sub) (post .island 0) e
     (s .atPump .atPump).Keyed e (post .island 0) .island 0x4E ∧
     ((s .atPump .atPump).island 1).bind (·.turn) = some (turn .atPump (some 1)) ∧
     ((s .dispensing .dispensing).island 1).bind (·.turn) = some (turn .dispensing (some 1)) ∧
     ((s .check .check).island 1).bind (·.turn) = some (turn .check (some 1)) ∧
     ((s .atPump .atPump).island 1).bind (·.queue.head?) = some 0 ∧
     (s .atPump .atPump).visit 0 = some (fuelled .atPump)) ∧
    dieselIsland.turn = none := by decide +kernel

/-- A need of 100 with stock; an empty tank with a berth and without one, with a due scan taken first and with none due; a head that is not QUEUED. -/
theorem test_TurnStartsWithItsLimit :
    let v := fuelled .queued
    let i := { dieselIsland with queue := [0] }
    let s := { seat yard 0 v with islands := yard.islands.setIfInBounds 0 (some i) }
    let dry := { s with diesel := { yard.diesel with stock := 0 } }
    let done := { v with
      fuelResult := FuelResult.owed, holds := { v.holds with fuelOwed := true } }
    let owed : Bool → State := fun due => ({ dry with
      router := { dry.router with scanPending := due }
      visits := dry.visits.setIfInBounds 0 (some done)
      islands := dry.islands.setIfInBounds 0 (some { i with last := some {
        fleet := v.fleet, handle := 0, ending := .limitZero, limit := 0, reported := none,
        settled := none, overrun := false, second := dry.clock.second, result := some .owed } })
      } : State).postAt .island 1 .stop
    (∀ due, let asked := if due = true then State.scan (owed due) else owed due
      (State.island asked 1).map (·.queue) = some [0] ∧ State.visit asked 0 = some done ∧
      State.profile asked 0 = some ⟨.diesel, 1, 86400, false⟩ ∧ done.fuelResult ≠ .unset ∧
      State.targetFor asked ⟨.diesel, 1, 86400, false⟩ done.stageAfterFuel = some (.lane 1) ∧
      State.targetFor { asked with lanes := setup.lanes } ⟨.diesel, 1, 86400, false⟩
        done.stageAfterFuel = none) ∧
    (FuelKind.diesel = i.fuel ∧ (fuelled .done).state ≠ .atIsland .queued) ∧
    s.island 1 = some i ∧ i.turn = none ∧ i.state ≠ .check ∧ i.queue.head? = some 0 ∧
    s.visit 0 = some v ∧ v.state = .atIsland .queued ∧
    s.entry v.fleet = some { bus 12 with inYard := some 0 } ∧
    0 < min (100 - v.progress) ((s.tank i.fuel).available (s.priority v)) ∧
    min (100 - v.progress) ((dry.tank i.fuel).available (dry.priority v)) = 0 ∧
    dry.router.scanPending = false := by decide +kernel

/-- After a turn: a record with a berth to go to and with none, a scan due and none due. -/
theorem test_AfterTurnAsksTheRouter :
    let v := record 12 (.atIsland .dispensing) (some (.island 1)) none
    let u : Bool → State := fun due => { seat yard 0 v with
      router := { yard.router with scanPending := due }
      islands := yard.islands.setIfInBounds 0 (some { dieselIsland with queue := [0] }) }
    ∀ due, let asked := if (u due).router.scanPending = true then State.scan (u due) else u due
      State.island asked 1 = some { dieselIsland with queue := [0] } ∧
      State.visit asked 0 = some v ∧ State.profile asked 0 = some ⟨.diesel, 1, 86400, false⟩ ∧
      v.fuelResult ≠ .unset ∧ v.stageAfterFuel = .berth ∧
      ({ v with washResult := .unset } : Visit).stageAfterFuel = .wash ∧
      State.targetFor asked ⟨.diesel, 1, 86400, false⟩ v.stageAfterFuel = some (.lane 1) ∧
      State.targetFor { asked with lanes := setup.lanes } ⟨.diesel, 1, 86400, false⟩
        v.stageAfterFuel = none := by decide +kernel

/-- Quantities below, at and above the limit; CHECK and not. -/
theorem test_SettlementTakesTheQuantity :
    (let s := turning .check none .check .check
     (s.island 1).bind (·.queue.head?) = some 0 ∧ (s.island 1).bind (·.turn) = some (turn .check none) ∧
     s.visit 0 = some (fuelled .check) ∧ s.Takes inOpen ∧
     (s.island 1).map (·.state) = some .check ∧ (9999 : Nat) ≤ 9999) ∧
    ((turning .atPump none .opened .atPump).island 1).map (·.state) ≠ some .check ∧
    (let e : CodeEntry := ⟨3, 0x45, false⟩
     (keyed (turning .dispensing none .opened .dispensing) (post .island 101) e).Keyed e
       (post .island 101) .island 0x45) ∧
    (let e : CodeEntry := ⟨3, 0x46, false⟩
     (keyed (turning .dispensing none .opened .dispensing) (post .island 100) e).Keyed e
       (post .island 100) .island 0x46) := by decide +kernel

theorem test_VoidAndIdleExpiryEndTheTurn :
    (let e : CodeEntry := ⟨3, 0x56, true⟩
     let s := keyed (turning .atPump (some 0) .opened .atPump) (post .island 0) e
     s.Keyed e (post .island 0) .island 0x56 ∧ e.key = true ∧ s.boot = .running ∧
     (s.island 1).bind (·.queue.head?) = some 0 ∧ s.visit 0 = some (fuelled .atPump) ∧
     (s.island 1).bind (·.turn) = some (turn .atPump (some 0)) ∧
     (turn .atPump (some 0)).idle = some 0 ∧ (turn .dispensing (some 0)).state ≠ .atPump ∧
     (turn .atPump (some 1)).idle ≠ some 0) ∧
    (turning .check none .check .check).Takes inOpen ∧
    ((turning .check none .check .check).island 1).map (·.state) = some .check := by decide +kernel

theorem test_FacilityStatesAreSet :
    yard.Takes inOpen ∧ ¬ (1 ≤ 0 ∧ 0 ≤ 6) ∧ ¬ (1 ≤ 7 ∧ 7 ≤ 6) ∧ yard.island 6 = none ∧
    yard.island 1 = some dieselIsland ∧
    ({ dieselIsland with state := .check } : Island).state = .check ∧
    ¬ (1 ≤ 4 ∧ 4 ≤ 3) ∧ yard.wash 3 = none ∧ yard.wash 1 = some washLane ∧
    ({ washLane with state := .fault } : WashLane).state = .fault ∧
    ¬ (1 ≤ 21 ∧ 21 ≤ 20) ∧ (3 : Nat) ≤ 3 ∧ yard.lane 20 = none ∧ yard.lane 1 = some stackLane ∧
    stackLane.state = .opened ∧ stackLane.state ≠ .shut := by decide +kernel

theorem test_StockRequestsCompareTheFlags :
    let s := setup.setTank .diesel { setup.diesel with stock := 600, committed := 500 }
    setup.Takes inBoth ∧ s.Takes inSetup ∧ (65535 < 65536) ∧ s.diesel.committed ≤ 500 ∧
    499 < s.diesel.committed ∧ 10000 ≤ s.diesel.capacity ∧ s.diesel.capacity < 10001 ∧
    (1 ≤ 600 ∧ 600 ≤ 65535 ∧ 1 ≤ 13 ∧ 13 < 14 ∧ 14 ≤ 14) ∧ s.diesel.stock ≤ 600 ∧
    599 < s.diesel.stock ∧ ¬ (1 ≤ 0 ∧ 0 < 1) ∧ ¬ (13 < 15 ∧ 15 ≤ 14) := by decide +kernel

/-! Witnesses: wash lanes, berth lanes -/

def washing (x : WashSub) : Visit := record 12 (.atWash x) (some (.wash 1)) none

/-- Vehicle 12 at the head of wash lane 1. -/
def washed (x : WashSub) (w : WashLane) : State :=
  { seat yard 0 (washing x) with washes := yard.washes.setIfInBounds 0 (some w) }

def held : WashLane := { washLane with list := [0] }

theorem test_ReadyStartsTheCycle :
    (let e : CodeEntry := ⟨4, 0x52, false⟩
     (keyed (washed .queued held) (post .wash 0) e).Keyed e (post .wash 0) .wash 0x52 ∧
     (post .wash 0).facility = 1) ∧
    (let w := { held with machineReady := true }
     let s := washed .queued w
     s.wash 1 = some w ∧ w.list.head? = some 0 ∧ s.visit 0 = some (washing .queued) ∧
     s.entry 12 = some { bus 12 with inYard := some 0 } ∧ (washing .queued).state = .atWash .queued ∧
     w.startPosted = false ∧ w.state ≠ .fault) ∧
    (let e : CodeEntry := ⟨4, 0x57, false⟩
     let w := { held with startPosted := true }
     let s := keyed (washed .queued w) (post .wash 0) e
     s.Keyed e (post .wash 0) .wash 0x57 ∧ s.wash 1 = some w) ∧
    washLane.list = [] ∧ washLane.machineReady = false ∧
    (washing .washing).state ≠ .atWash .queued := by decide +kernel

/-- Drip times 0 and 1; a berth and no lane. -/
theorem test_CycleDoneDripsAndAsksForABerth :
    let e : CodeEntry := ⟨4, 0x44, false⟩
    let s := keyed (washed .washing held) (post .wash 0) e
    s.wash 1 = some held ∧ held.list.head? = some 0 ∧ s.visit 0 = some (washing .washing) ∧
    s.Keyed e (post .wash 0) .wash 0x44 ∧
    0 < ({ s with times := { s.times with dripTime := 1 } } : State).times.dripTime ∧
    ({ s with times := { s.times with dripTime := 0 } } : State).times.dripTime = 0 ∧
    (washing .queued).state ≠ .atWash .washing ∧ s.boot = .running ∧
    ({ held with drip := some 0 } : WashLane).drip = some 0 ∧ held.drip ≠ some 0 ∧
    s.router.scanPending = false ∧ s.profile 0 = some ⟨.diesel, 1, 86400, false⟩ ∧
    (let due := ({ s with router := { s.router with scanPending := true } } : State).scan
     due.profile 0 = some ⟨.diesel, 1, 86400, false⟩ ∧ due.wash 1 = some held ∧
     due.placement 1 86400 none = some 1 ∧ due.lane 1 = some stackLane) ∧
    s.placement 1 86400 none = some 1 ∧
    s.lane 1 = some stackLane ∧
    ({ s with lanes := setup.lanes } : State).placement 1 86400 none = none := by decide +kernel

theorem test_FaultHaltsAndRecoveryReopens :
    (let e : CodeEntry := ⟨4, 0x21, false⟩
     let s := keyed (washed .washing held) (post .wash 0) e
     s.Keyed e (post .wash 0) .wash 0x21 ∧ s.wash 1 = some held ∧ held.state ≠ .fault ∧
     s.visit 0 = some (washing .washing)) ∧
    (washing .queued).state ≠ .atWash .washing ∧
    ({ held with startPosted := true } : WashLane).startPosted = true ∧ held.startPosted = false ∧
    washLane.list = [] ∧
    (let w := { held with state := .fault }
     let e : CodeEntry := ⟨4, 0x5A, true⟩
     let s := fun n => keyed (washed .halted w) (post .wash n) e
     (s 1).Keyed e (post .wash 1) .wash 0x5A ∧ (post .wash 1).accumulator = 1 ∧
     (s 2).Keyed e (post .wash 2) .wash 0x5A ∧ (post .wash 2).accumulator = 2 ∧
     (s 3).Keyed e (post .wash 3) .wash 0x5A ∧ 2 < (post .wash 3).accumulator ∧ e.key = true ∧
     (s 1).wash 1 = some w ∧ (s 1).Takes inOpen ∧ (s 1).visit 0 = some (washing .halted) ∧
     (s 1).wash 3 = none ∧ ¬ (1 ≤ 4 ∧ 4 ≤ 3) ∧
     (washing .done).state ≠ .atWash .halted) := by decide +kernel

/-- Line 3 enters wash lane 1, line 4 leaves it; with the lines disabled, the codes. -/
theorem test_WashPassagesMoveTheRecords :
    let v := record 12 .toWash none (some (.wash 1))
    let w := { washLane with entryLock := some 0, reserved := 1 }
    let s := { seat yard 0 v with washes := yard.washes.setIfInBounds 0 (some w) }
    let off : State := { s with beams := yard.beams.map fun b => { b with enabled := false } }
    let line := (⟨.washEntry 1, true, false⟩ : Beam)
    s.wash 1 = some w ∧ s.visit 0 = some v ∧ s.boot = .running ∧ s.phase = .opened ∧
    s.beam 3 = some line ∧ line.enabled = true ∧ w.entryLock = some 0 ∧
    line.role = .washEntry 1 ∧ s.beam 4 = some ⟨.washExit 1, true, false⟩ ∧
    (let e : CodeEntry := ⟨4, 0x49, false⟩
     (keyed off (post .wash 0) e).Keyed e (post .wash 0) .wash 0x49 ∧
     s.lineEnabled (.washEntry 1) = true) ∧
    (let e : CodeEntry := ⟨4, 0x4F, false⟩
     (keyed off (post .wash 0) e).Keyed e (post .wash 0) .wash 0x4F ∧
     s.lineEnabled (.washExit 1) = true) ∧
    (let b := (⟨.unassigned, true, false⟩ : Beam)
     off.lineEnabled (.washEntry 1) = false ∧ off.lineEnabled (.washExit 1) = false ∧
     ({ off with beams := off.beams.setIfInBounds 5 b } : State).beam 5 = some b) ∧
    washLane.entryLock = none ∧ washLane.list = [] ∧ held.list.head? = some 0 ∧
    (washing .dripping).state = .atWash .dripping ∧ (washing .done).state = .atWash .done ∧
    (washing .halted).state ≠ .atWash .dripping ∧ (washing .halted).state ≠ .atWash .done ∧
    (record 12 .astray none none).state ≠ .toWash := by decide +kernel

/-- Vehicle 12 inbound to lanes 1 and 2, and outbound to the gate and to a lane. -/
theorem test_LanePassagesMoveTheRecords :
    let v := record 12 .toBerth none (some (.lane 1))
    let l := { stackLane with mouth := some (.inbound 0), reserved := 1 }
    let g := { stackLane with list := [0], used := 1, mouth := some (.outbound 0 .gate) }
    let t := { stackLane with kind := .through, list := [0], used := 1, far := some (.outbound 0 (.lane 1)) }
    let s := { seat yard 0 v with lanes := yard.lanes.setIfInBounds 0 (some l) }
    let off : State := { s with beams := (yard.beams.map fun b => { b with enabled := false }).setIfInBounds 5 .reset }
    let x := { bus 12 with inYard := some 0 }
    s.lane 1 = some l ∧ s.visit 0 = some v ∧ s.boot = .running ∧ s.phase = .opened ∧
    s.beam 0 = some ⟨.laneMouth 1, true, false⟩ ∧ s.beam 1 = some ⟨.laneEntry 2, true, false⟩ ∧
    s.beam 2 = some ⟨.laneExit 2, true, false⟩ ∧ (post .lanePost 12).facility = 1 ∧
    (post .lanePost 12).accumulator ≠ 0 ∧ s.entry 12 = some x ∧ x.inYard = some 0 ∧
    l.mouth = some (.inbound 0) ∧ g.exitLock = some (.outbound 0 .gate) ∧
    t.exitLock = some (.outbound 0 (.lane 1)) ∧ g.kind = .stack ∧
    (let e : CodeEntry := ⟨5, 0x49, false⟩
     (keyed off (post .lanePost 12) e).Keyed e (post .lanePost 12) .lanePost 0x49) ∧
    (let e : CodeEntry := ⟨5, 0x4F, false⟩
     (keyed off (post .lanePost 12) e).Keyed e (post .lanePost 12) .lanePost 0x4F) ∧
    off.beam 5 = some .reset ∧ off.lineEnabled (l.inboundRole 1) = false ∧
    off.lineEnabled (g.outboundRole 1) = false ∧ s.lineEnabled (l.inboundRole 1) = true ∧
    s.lineEnabled (g.outboundRole 1) = true ∧ stackLane.mouth ≠ some (.inbound 0) ∧
    stackLane.exitLock = none ∧ (record 12 .parked (some (.lane 2)) none).state ≠ .toBerth ∧
    (record 12 .toBerth none (some (.lane 2))).target ≠ some (.lane 1) := by decide +kernel

/-- The number of no vehicle and of one outside the yard, keyed at a lane post with its line enabled and disabled. -/
theorem test_LanePostsRefuseOtherVehicles :
    let off : State := { yard with beams := yard.beams.map fun b => { b with enabled := false } }
    yard.lane 1 = some stackLane ∧ (post .lanePost 9999).accumulator ≠ 0 ∧
    yard.entry 9999 = none ∧ yard.entry 4711 = some (bus 4711) ∧ (bus 4711).inYard = none ∧
    (let e : CodeEntry := ⟨5, 0x49, false⟩
     (keyed off (post .lanePost 9999) e).Keyed e (post .lanePost 9999) .lanePost 0x49 ∧
     (keyed yard (post .lanePost 4711) e).Keyed e (post .lanePost 4711) .lanePost 0x49) ∧
    (let e : CodeEntry := ⟨5, 0x4F, false⟩
     (keyed off (post .lanePost 9999) e).Keyed e (post .lanePost 9999) .lanePost 0x4F ∧
     (keyed yard (post .lanePost 4711) e).Keyed e (post .lanePost 4711) .lanePost 0x4F) ∧
    yard.lineEnabled (stackLane.inboundRole 1) = true ∧
    off.lineEnabled (stackLane.outboundRole 1) = false := by decide +kernel

theorem test_StrayPassagesAreLatched :
    yard.beam 0 = some ⟨.laneMouth 1, true, false⟩ ∧ yard.boot = .running ∧ yard.phase = .opened ∧
    yard.lane 1 = some stackLane ∧ stackLane.mouth = none ∧ stackLane.kind = .stack ∧
    yard.beam 1 = some ⟨.laneEntry 2, true, false⟩ ∧
    yard.lane 2 = some { stackLane with kind := .through } ∧
    yard.beam 2 = some ⟨.laneExit 2, true, false⟩ ∧ setup.phase ≠ .opened ∧
    setup.beam 47 = some .reset ∧ Beam.reset.role = .unassigned ∧
    ({ Beam.reset with enabled := false } : Beam).enabled = false ∧
    (let l := { stackLane with mouth := some (.inbound 0) }
     let s : State := { parked with lanes := yard.lanes.setIfInBounds 0 (some l) }
     s.lane 1 = some l ∧ l.mouth = some (.inbound 0) ∧
     (s.visit 0).map (·.state) = some .parked) := by decide +kernel

theorem test_strayLocksHoldNothing :
    (∀ h, ({ stackLane with kind := .through } : Lane).mouth ≠ some (.inbound h)) ∧
    ∀ h d, ({ stackLane with kind := .through } : Lane).exitLock ≠ some (.outbound h d) := by
  refine ⟨fun h => ?_, fun h d => ?_⟩ <;> simp [stackLane, Lane.exitLock]

/-- Targets: lane 2 by number, any lane, the own lane; a lane with one unit free and with none. -/
theorem test_MoveClaimsBothLanes :
    let v := record 12 .parked (some (.lane 1)) none
    let l := { stackLane with list := [0], used := 1 }
    let g := { stackLane with kind := LaneKind.through, list := [5], used := 1 }
    let s : State := { parked with lanes := parked.lanes.setIfInBounds 1 (some g) }
    let p : Profile := ⟨.diesel, 1, 86400, false⟩
    s.Takes inOpen ∧ s.visit 0 = some v ∧ s.profile 0 = some p ∧ v.place = some (.lane 1) ∧
    s.lane 1 = some l ∧ s.lane 2 = some g ∧ (2 : Nat) ≤ 20 ∧ l.list.head? = some 0 ∧
    l.state ≠ .shut ∧ (s.lane 2).map (·.state) ≠ some .shut ∧ l.exitLock = none ∧
    (s.lane 2).bind (·.mouth) = none ∧ p.units ≤ g.capacity - g.used - g.reserved ∧
    ({ g with used := 2 } : Lane).capacity - 2 - g.reserved < p.units ∧
    s.placement p.units p.key (some 1) = some 2 ∧ parked.placement p.units p.key (some 1) = some 2 ∧
    (let x : State := { parked with lanes := parked.lanes.setIfInBounds 1 none }
     x.placement p.units p.key (some 1) = none ∧ x.lane 2 = none) ∧
    ({ l with mouth := some (.inbound 7) } : Lane).exitLock ≠ none ∧ s.lane 0 = none := by
  decide +kernel

/-- A handle and a lane out of range, a free slot, a lane not defined, and a record that stands in no lane. -/
theorem test_MoveIsRefused :
    let s := seat yard 0 (record 12 .apron (some .apron) none)
    s.Takes inOpen ∧ 127 < 128 ∧ 20 < 21 ∧ s.visit 127 = none ∧ s.lane 20 = none ∧ 20 ≠ 0 ∧
    s.visit 0 = some (record 12 .apron (some .apron) none) ∧
    s.profile 0 = some ⟨.diesel, 1, 86400, false⟩ ∧ s.lane 1 ≠ none := by decide +kernel

theorem test_apronIsNoLane : ∀ n, (record 12 .apron (some .apron) none).place ≠ some (.lane n) := by
  simp [record]

/-! Witnesses: the layout, attention, the Yard Line -/

theorem test_LayoutRequestsDefineTheItems :
    setup.Takes inSetup ∧ (1 : Nat) ≤ 20 ∧ ¬ (1 ≤ 21 ∧ 21 ≤ 20) ∧ ¬ (1 ≤ 13 ∧ 13 ≤ 12) ∧
    ¬ (1 ≤ 0 ∧ 0 ≤ 6) ∧ ¬ (1 ≤ 17 ∧ 17 ≤ 16) ∧
    facilityOk .lanePost 20 = true ∧ facilityOk .gateIn 0 = true ∧ facilityOk .gateIn 1 = false ∧
    StationKind.lanePost.code = 4 ∧ setup.beam 47 = some .reset ∧
    roleOf 3 20 = some (.laneExit 20) ∧ roleOf 3 21 = none ∧ roleOf 5 4 = none ∧ roleOf 6 1 = none ∧
    BeamRole.facility (.laneExit 20) = some 20 ∧
    (60 ≤ 60 ∧ 60 ≤ 1800 ∧ 0 ≤ 900 ∧ 30 ≤ 30 ∧ 30 ≤ 900 ∧ 600 ≤ 600 ∧ 0 ≤ 300 ∧ 14400 ≤ 14400) ∧
    ¬ (60 ≤ 59) := by decide +kernel

/-- The layout of `yard` in SETUP passes the ten tests; with no lane the second and fourth fail. -/
theorem test_OpenYardTestsAndOpens :
    let s := { yard with
      phase := .setup
      beams := yard.beams.setIfInBounds 5 ⟨.unassigned, true, false⟩ }
    s.Takes inSetup ∧ (∀ x ∈ s.openTests, x = none) ∧
    (let t : State := { s with lanes := setup.lanes }
     t.openTests[1]? = some (some 0) ∧ t.openTests[0]? = some none) ∧
    (let t : State := { s with beams := setup.beams }
     t.openTests[5]? = some (some 1) ∧ t.openTests[4]? = some none ∧
     t.linesWith (.laneMouth 1) ≠ 1 ∧ t.linesWith (.laneEntry 2) ≠ 1) := by decide +kernel

theorem test_YardClosesAndClears :
    yard.Takes inOpen ∧ yard.live = [] ∧ yard.router.exitHeld = [] ∧ yard.router.apron = [] ∧
    yard.roster.state ≠ .active ∧ yard.roster.plan.status ≠ .running ∧ parked.live ≠ [] ∧
    setup.Takes inBoth := by decide +kernel

theorem test_BeamFlagsAndAttentionAreSet :
    setup.Takes inBoth ∧ setup.beam 47 = some .reset ∧ (48 : Nat) ≤ 48 ∧ (4095 : Nat) < 4096 ∧
    (4096 : Nat) ≤ 4096 ∧ setup.phase ≠ .halted ∧
    ({ setup with phase := .halted } : State).phase = .halted ∧
    (let s : State := { setup with beams := setup.beams.setIfInBounds 47 ⟨.unassigned, true, true⟩ }
     s.beam 47 = some ⟨.unassigned, true, true⟩ ∧
     ((attentionData s).drop 6).take 6 = [0x80, 0, 0, 0, 0, 0]) ∧
    (∀ l, l < 48 → (setup.beam l).map (·.stray) = some false) := by decide +kernel

theorem test_PollSendPollsTheNextStation :
    yard.boot = .running ∧ yard.phase ≠ .halted ∧ yard.line.poll = none ∧ yard.line.round = [] ∧
    ((List.range 16).map (· + 1)).filter (fun a => (yard.station a).isSome) = [1, 2, 3, 4, 5] ∧
    yard.station 1 = some (station .gateIn 0) := by decide +kernel

theorem test_setupHasNoStation (a : Nat) : setup.station a = none := by
  simp only [State.station, setup, State.reset, Line.reset]
  split
  · rfl
  · unfold slotGet
    by_cases h : a - 1 < 16 <;> simp [h]

/-- No byte, a good frame with the queue at twelve and at thirteen, and a frame with a wrong sum. -/
theorem test_PollOutcomeUpdatesTheStation :
    let p : Poll := ⟨1, .blank, none, false, false⟩
    let s := { yard with line := { yard.line with
      poll := some p, queue := List.replicate 12 ⟨2, 0x58, false⟩ } }
    let frame : List Byte := [1, 1, 4, 0x31, 0x32, 0x33, 0x41, 0x23]
    s.boot = .running ∧ s.line.poll = some p ∧ s.station p.address = some (station .gateIn 0) ∧
    frame = (1 : Byte) :: 1 :: 4 :: [0x31, 0x32, 0x33, 0x41] ++ [0x23] ∧ byteSum frame = 0 ∧
    ({ s with line := { s.line with stations := setup.line.stations } } : State).station p.address =
      none ∧
    (1 : Byte).toNat = p.address ∧ (4 : Byte).toNat = 4 ∧ s.line.queue.length + 4 ≤ 16 ∧
    16 < s.line.queue.length + 1 + 4 ∧ byteSum [1, 0, 0, 0] ≠ 0 := by decide +kernel

/-- A single byte is no answer frame. -/
theorem test_oneByteIsNoFrame (a status n : Byte) (codes : List Byte) (check : Byte) :
    ([1] : List Byte) ≠ a :: status :: n :: codes ++ [check] := by simp

/-! Witnesses: the Roster Unit, the scan, frames, laws -/

theorem test_RosterIsLoadedAndArmed :
    let loading : Nat → State := fun day =>
      { yard with roster := { setup.roster with state := .loading, day := day, releaseEnd := 30000 } }
    let crowded : State := { loading 0 with roster := { (loading 0).roster with
      duties := (List.range 128).map fun k => duty (k + 1) 500 .opened none } }
    yard.Takes inBoth ∧ 65535 < 65536 ∧ 86399 < 86400 ∧ yard.roster.state = .empty ∧
    (loading 0).roster.state ≠ .empty ∧ yard.roster.state ≠ .loading ∧
    (1 ≤ 65535 ∧ 30000 ≤ 86399 ∧ 30000 ≤ (loading 0).roster.releaseEnd) ∧
    ¬ 30001 ≤ (loading 0).roster.releaseEnd ∧
    (∃ d ∈ crowded.roster.duties, d.number = 128) ∧
    ¬ (∃ d ∈ crowded.roster.duties, d.number = 129) ∧ 128 ≤ crowded.roster.duties.length ∧
    (loading 0).roster.duties.length < 128 ∧ (loading 0).clock.isSet = true ∧
    setup.clock.isSet = false ∧ (loading 0).roster.day = (loading 0).clock.day ∧
    (loading 1).roster.day = ((loading 1).clock.day + 1) % 65536 ∧
    (loading 2).roster.day ≠ ((loading 2).clock.day + 1) % 65536 := by decide +kernel

/-- A roster with no duty stands in every law of bindings where no record is bound. -/
theorem unbound_bindingLaw (s : State) (h1 : s.roster.duties = [])
    (h2 : ∀ h v, s.visit h = some v → v.duty = none) : s.BindingLaw := by
  refine ⟨fun _ => h1, ?_, ?_, ?_⟩
  · intro slot d h hd
    simp [State.duty, h1] at hd
  · intro h v slot hv hs
    rw [h2 h v hv] at hs
    cases hs
  · intro slot d hd
    simp [State.duty, h1] at hd

/-- One duty, bound to the record in slot h, which alone is bound. -/
theorem bound_bindingLaw (s : State) (h : Nat) (v : Visit) (d : Duty)
    (h0 : s.roster.state ≠ .empty) (h1 : s.roster.duties = [d]) (h2 : s.visit h = some v)
    (h3 : v.duty = some 0) (h4 : d.bound = some h) (h5 : d.state.unbound = false)
    (h6 : ∀ k w, s.visit k = some w → k = h) : s.BindingLaw := by
  have slot0 : ∀ slot x, s.duty slot = some x → slot = 0 ∧ x = d := by
    intro slot x hx
    rw [State.duty, h1] at hx
    cases slot with
    | zero => exact ⟨rfl, by simpa using hx.symm⟩
    | succ n => simp at hx
  refine ⟨fun h => absurd h h0, ?_, ?_, ?_⟩
  · intro slot x k hx hb
    obtain ⟨rfl, rfl⟩ := slot0 slot x hx
    rw [h4] at hb
    cases hb
    exact ⟨v, h2, h3⟩
  · intro k w slot hw hs
    obtain rfl := h6 k w hw
    rw [h2] at hw
    cases hw
    rw [h3] at hs
    cases hs
    exact ⟨d, by simp [State.duty, h1], h4⟩
  · intro slot x hx hu
    obtain ⟨rfl, rfl⟩ := slot0 slot x hx
    rw [h5] at hu
    cases hu

theorem called_emptySlots : ∀ k, k < 128 → k ≠ 0 → called.visit k = none := by decide +kernel

theorem called_bindingLaw : called.BindingLaw := by
  refine bound_bindingLaw called 0 { record 12 .called (some (.lane 1)) none with
    movement := some .gate, duty := some 0 } (duty 1 500 .called (some 0)) (by decide) rfl
    (by decide +kernel) rfl rfl rfl ?_
  intro k w hw
  refine Decidable.byContradiction fun hk => ?_
  rw [called_emptySlots k (State.visit_lt hw) hk] at hw
  cases hw

/-- Vehicle 12 is CALLED for a CALLED duty of an ACTIVE roster. -/
theorem called_activeLaw : called.ActiveLaw := by
  refine ⟨fun slot d _ hn => absurd rfl hn, fun _ => Or.inr rfl, fun h v hv _ => ?_⟩
  by_cases hk : h = 0
  · subst hk
    have h0 : called.visit 0 = some { record 12 .called (some (.lane 1)) none with
      movement := some .gate, duty := some 0 } := by decide +kernel
    rw [h0] at hv
    cases hv
    exact ⟨0, duty 1 500 .called (some 0), rfl, rfl, rfl⟩
  · rw [called_emptySlots h (State.visit_lt hv) hk] at hv
    cases hv

theorem test_RosterClosesAndClears :
    called.BindingLaw ∧ called.Takes inBoth ∧ called.roster.state = .active ∧
    called.duty 0 = some (duty 1 500 .called (some 0)) ∧
    (duty 1 500 .called (some 0)).state.missable = true ∧
    (roster yard .loading []).roster.state = .loading ∧
    (roster yard .empty []).roster.state ≠ .loading ∧ called.boot = .running ∧
    ({ called.roster with closeDue := true } : Roster).closeDue = true ∧
    called.roster.closeDue = false ∧ called.roster.plan.status ≠ .running := by
  refine ⟨called_bindingLaw, ?_⟩
  decide +kernel

/-- The CALLED record's lock and lane post, and a latch that the count joins. -/
theorem called_closes :
    called.CalledIn 0 1 ∧ (called.lane 1).bind (·.exitLock) = some (.outbound 0 .gate) ∧
    (called.lane 1).map (·.kind) = some .stack ∧ called.stationOf .lanePost 1 = some 5 ∧
    (called.roster.duties.filter (·.state.missable)).length = 1 ∧
    called.attention.dutyMissed = none ∧ called.line.poll = none ∧
    (called.closeRoster.lane 1).bind (·.exitLock) = none ∧
    called.closeRoster.attention.dutyMissed = some ⟨1, 1⟩ :=
  ⟨⟨0, duty 1 500 .called (some 0), { record 12 .called (some (.lane 1)) none with
    movement := some .gate, duty := some 0 }, by decide +kernel⟩, by decide +kernel⟩

/-- A day turn finds the roster ACTIVE with a CALLED record. -/
theorem test_DayTurnClosesTheRoster :
    let s : State := { called with clock := { called.clock with second := 86399 } }
    s.BindingLaw ∧ s.boot = .running ∧ s.phase ≠ .halted ∧ s.NothingDue ∧
    s.clock.second = 86399 ∧ s.roster.state = .active := by
  have turns : ∀ n, n < 7 → (called.island n).all (fun i => i.turn.isNone) = true := by
    decide +kernel
  have drips : ∀ n, n < 4 → (called.wash n).all (fun w => w.drip.isNone) = true := by
    decide +kernel
  have timer : (called.visit 0).all (fun v => v.timer.isNone) = true := by decide +kernel
  refine ⟨called_bindingLaw, rfl, (by decide +kernel : Phase.opened ≠ .halted),
    ⟨rfl, rfl, rfl, ?_, ?_, ?_⟩, rfl, rfl⟩
  · intro h v hv
    replace hv : called.visit h = some v := hv
    by_cases hk : h = 0
    · subst hk
      rw [hv] at timer
      intro ht
      simp [ht] at timer
    · rw [called_emptySlots h (State.visit_lt hv) hk] at hv
      cases hv
  · intro n i t hi ht
    replace hi : called.island n = some i := hi
    have := turns n (by have := State.island_pos hi; omega)
    simp [hi, ht] at this
  · intro n w hw hd
    replace hw : called.wash n = some w := hw
    have := drips n (by have := State.wash_pos hw; omega)
    simp [hw, hd] at this

/-- Duties 1 and 2; duty 1 bound to the record in slot 0, slot 1 holding another. -/
def bound (x y : DutyState) (a b : Option Nat) (c d : Option Nat) : State :=
  let s := seat (seat parked 0 { record 12 .parked (some (.lane 1)) none with duty := c }) 1
    { record 4711 .parked (some (.lane 2)) none with duty := d }
  { roster s .active [duty 1 500 x a, duty 2 600 y b] with
    lanes := s.lanes.setIfInBounds 1 (some { stackLane with kind := .through, list := [1], used := 1 }) }

theorem test_BindingRequestsWriteBothSides :
    (let s := bound .opened .opened none none none none
     s.Takes inOpen ∧ s.slotOf 1 = some 0 ∧ s.duty 0 = some (duty 1 500 .opened none) ∧
     s.visit 0 = some (record 12 .parked (some (.lane 1)) none) ∧ s.roster.state = .active ∧
     (record 12 .parked (some (.lane 1)) none).duty = none ∧
     s.compatible 0 (duty 1 500 .opened none) = true ∧
     s.compatible 0 { duty 1 500 .opened none with fuelSet := .gas } = false) ∧
    (let s := bound .bound (.held .blocked) (some 0) (some 1) (some 0) (some 1)
     s.Takes inOpen ∧ s.slotOf 2 = some 1 ∧ s.duty 0 = some (duty 1 500 .bound (some 0)) ∧
     s.duty 1 = some (duty 2 600 (.held .blocked) (some 1)) ∧
     s.visit 0 = some { record 12 .parked (some (.lane 1)) none with duty := some 0 } ∧
     s.visit 1 = some { record 4711 .parked (some (.lane 2)) none with duty := some 1 } ∧
     DutyState.bound.movable = true ∧ (DutyState.held .blocked).movable = true ∧
     (DutyState.held .blocked).reason ≠ none ∧
     s.compatible 0 (duty 2 600 (.held .blocked) (some 1)) = true ∧
     s.compatible 1 (duty 1 500 .bound (some 0)) = true ∧
     s.compatible 1 { duty 1 500 .bound (some 0) with length := .artic } = false) ∧
    (called.slotOf 1 = some 0 ∧ called.Takes inBoth ∧
     (called.lane 1).bind (·.exitLock) = some (.outbound 0 .gate)) ∧
    DutyState.gone.missable = false ∧
    (∀ y ∈ (bound .opened .opened none none none none).roster.duties, y.number ≠ 65535) := by
  decide +kernel

/-- The numbers at the edges, a free slot, and each ground of STATE. -/
theorem test_BindingRequestsAreRefused :
    let s := bound .opened .opened none none none none
    s.Takes inOpen ∧ s.Takes inBoth ∧ 65535 < 65536 ∧ 127 < 128 ∧ s.visit 127 = none ∧
    s.slotOf 1 = some 0 ∧ s.slotOf 2 = some 1 ∧ s.duty 0 = some (duty 1 500 .opened none) ∧
    s.duty 1 = some (duty 2 600 .opened none) ∧
    (roster s .loading s.roster.duties).roster.state ≠ .armed ∧
    (roster s .loading s.roster.duties).roster.state ≠ .active ∧
    DutyState.bound ≠ .opened ∧ DutyState.bound ≠ .held .uncovered ∧
    (record 12 .toGate none (some .gate)).state = .toGate ∧
    ({ record 12 .parked (some (.lane 1)) none with duty := some 0 } : Visit).duty ≠ none ∧
    (duty 1 500 .opened none).state ≠ .bound := by decide +kernel

theorem test_openDutyIsNotHeld : ¬ ∃ r, (duty 1 500 .opened none).state = .held r ∧ r ≠ .uncovered := by
  rintro ⟨r, h, -⟩
  cases h

/-- One duty for each reason: unbound; its record on the apron, with a hold, in a SHUT lane, behind another, its lane locked; READY at the front. -/
theorem test_CallCheckHoldsOrCalls :
    let s := bound .bound .opened (some 0) none (some 0) none
    let v := { record 12 .parked (some (.lane 1)) none with duty := some 0 }
    let l := { stackLane with list := [0], used := 1 }
    s.duty 0 = some (duty 1 500 .bound (some 0)) ∧ s.times.autoSwap = false ∧
    s.times.autoBind = false ∧ s.duty 1 = some (duty 2 600 .opened none) ∧
    s.visit 0 = some v ∧ v.state = .parked ∧ v.ready = true ∧ v.place = some (.lane 1) ∧
    s.lane 1 = some l ∧ l.state ≠ .shut ∧ l.list.head? = some 0 ∧ l.exitLock = none ∧
    (record 12 .apron (some .apron) none).state ≠ .parked ∧
    ({ v with holds := ⟨true, false, false, false⟩ } : Visit).ready = false ∧
    ({ l with state := .shut } : Lane).state = .shut ∧
    (∃ c, ({ l with list := [1, 0] } : Lane).list.head? = some c ∧ c ≠ 0) ∧
    ({ l with mouth := some (.inbound 1) } : Lane).exitLock ≠ none ∧
    (let t : State := { s with roster := { s.roster with checksDue := [0] } }
     t.boot = .running ∧ t.roster.closeDue = false ∧ t.roster.missesDue = [] ∧
     t.roster.checksDue = [0] ∧ t.roster.state = .active) := by
  refine ⟨by decide, by decide, by decide, by decide, by decide +kernel, rfl, by decide, rfl,
    by decide +kernel, by decide, rfl, rfl, by decide, by decide, rfl, ⟨1, rfl, by decide⟩,
    by decide, by decide⟩

/-- Vehicle 12 behind vehicle 4711 in lane 1, with auto-swap and auto-bind ON. -/
def behind (x y : DutyState) (b c : Option Nat) (d : Option Nat) (lock : Option Movement) : State :=
  let s := bound x y (some 0) b c d
  { seat s 1 { record 4711 .parked (some (.lane 1)) none with duty := d } with
    times := { s.times with autoSwap := true, autoBind := true }
    lanes := s.lanes.setIfInBounds 0 (some { stackLane with list := [1, 0], used := 2, mouth := lock }) }

/-- The front record free; bound to a later duty, BOUND and HELD; not READY; the lane's exit free and held. -/
theorem test_AutoSwapAndAutoBindTakeARecord :
    (let s := behind .bound (.held .blocked) (some 1) (some 0) (some 1) none
     let w := { record 4711 .parked (some (.lane 1)) none with duty := some 1 }
     let l := { stackLane with list := [1, 0], used := 2 }
     s.duty 0 = some (duty 1 500 .bound (some 0)) ∧ s.times.autoSwap = true ∧
     s.visit 0 = some { record 12 .parked (some (.lane 1)) none with duty := some 0 } ∧
     s.visit 1 = some w ∧ (s.visit 0).map (·.ready) = some true ∧ s.lane 1 = some l ∧
     l.state ≠ .shut ∧ l.list.head? = some 1 ∧ l.exitLock = none ∧ w.ready = true ∧
     s.compatible 1 (duty 1 500 .bound (some 0)) = true ∧
     s.duty 1 = some (duty 2 600 (.held .blocked) (some 1)) ∧
     (duty 1 500 .bound (some 0)).pullOut < (duty 2 600 .bound (some 1)).pullOut ∧
     s.compatible 0 (duty 2 600 .bound (some 1)) = true ∧
     ¬ (duty 1 500 .bound (some 0)).pullOut < (duty 2 500 .bound (some 1)).pullOut) ∧
    ((behind .bound .opened none (some 0) none none).visit 1).bind (·.duty) = none ∧
    ((behind .bound .opened none (some 0) none (some (.inbound 7))).lane 1).bind Lane.exitLock ≠ none ∧
    ({ record 4711 .parked (some (.lane 2)) none with holds := ⟨true, false, false, false⟩ } :
      Visit).ready = false ∧
    (let s := { bound .opened .opened none none none none with
       times := { State.reset.times with autoBind := true } }
     s.duty 0 = some (duty 1 500 .opened none) ∧ s.times.autoBind = true ∧
     s.autoBindPick (duty 1 500 .opened none) = some 0 ∧
     (s.visit 0).map (·.fleet) = some 12 ∧ (s.visit 1).map (·.fleet) = some 4711 ∧
     s.lane 1 = some { stackLane with list := [0], used := 1 } ∧
     s.autoBindPick { duty 1 500 .opened none with fuelSet := .gas } = none) := by decide +kernel

theorem test_MissedDutiesAreUnboundAndLatched :
    (let s : State := { called with roster := { called.roster with missesDue := [0] } }
     s.duty 0 = some (duty 1 500 .called (some 0)) ∧ s.boot = .running ∧
     s.roster.closeDue = false ∧ s.roster.state = .active ∧
     (duty 1 500 .called (some 0)).state.missable = true ∧ s.roster.missesDue = [0] ∧
     (s.visit 0).bind (·.place) = some (.lane 1) ∧
     (s.lane 1).bind (·.exitLock) = some (.outbound 0 .gate)) ∧
    (let s := bound .bound .opened (some 0) none (some 0) none
     (duty 1 500 .bound (some 0)).state ≠ .called ∧ s.duty 0 = some (duty 1 500 .bound (some 0)) ∧
     s.visit 0 = some { record 12 .parked (some (.lane 1)) none with duty := some 0 }) := by
  decide +kernel

/-- A sweep at its first of two duties and at its last. -/
def sweeping (s : State) (walk : Nat) : State :=
  { s with roster := { s.roster with
    plan := { s.roster.plan with status := .running, order := [0, 1], walk := walk } } }

theorem test_PlanSweepWalksTheDuties :
    (yard.Takes inOpen ∧ yard.roster.state ≠ .armed ∧ yard.roster.state ≠ .active) ∧
    (let s := bound .opened (.held .blocked) none (some 1) none (some 1)
     s.roster.state = .active ∧ s.roster.plan.status ≠ .running ∧
     (sweeping s 0).roster.plan.status = .running ∧ (sweeping s 0).boot = .running ∧
     (sweeping s 0).roster.plan.order[0]? = some 0 ∧
     (sweeping s 0).duty 0 = some (duty 1 500 .opened none) ∧
     (sweeping s 0).sweepPick (duty 1 500 .opened none) = some 0 ∧
     (sweeping s 0).sweepPick { duty 1 500 .opened none with fuelSet := .gas } = none ∧
     (sweeping s 0).visit 0 = some (record 12 .parked (some (.lane 1)) none) ∧
     (sweeping s 1).roster.plan.order[1]? = some 1 ∧
     (sweeping s 1).duty 1 = some (duty 2 600 (.held .blocked) (some 1)) ∧
     HeldReason.blocked ≠ .uncovered) := by decide +kernel

/-- The three tiers of the sweep's choice: the front record of a lane, one behind it, one on the apron; none. -/
theorem test_sweepPickTakesItsTiers :
    let s : VisitState → State := fun x =>
      seat (seat parked 1 { record 4711 .parked (some (.lane 2)) none with duty := some 1 }) 0
        { record 12 x (some (.lane 1)) none with duty := none }
    let d := duty 1 500 .opened none
    let back : State := { s .parked with
      lanes := yard.lanes.setIfInBounds 0 (some { stackLane with list := [1, 0], used := 2 }) }
    (s .parked).sweepPick d = some 0 ∧ (s .parked).position 0 = some 0 ∧
    back.sweepPick d = some 0 ∧ back.position 0 = some 1 ∧ (s .apron).sweepPick d = some 0 ∧
    (s .astray).sweepPick d = none ∧ (s .parked).reachable 0 = true := by decide +kernel

/-- The sweep's binding leaves the duty bound. -/
theorem test_sweepBindingStands :
    let s := sweeping (bound .opened .opened none none none none) 0
    let d' := duty 1 500 .bound (some 0)
    State.boundOf (retests s { s with
      roster := { s.roster with
        duties := s.roster.duties.set 0 d', plan := { s.roster.plan with bound := 1 } }
      visits := s.visits.setIfInBounds 0
        (some { record 12 .parked (some (.lane 1)) none with duty := some 0 }) }) 0 = some 0 := by
  decide +kernel

/-- An entry of the apron for a berth that is there and for one that is not; one of the wash lane. -/
theorem test_DispatchScanServesTheWaitList :
    let e : WaitEntry := ⟨0, .berth, .apron, 0⟩
    let w : WaitEntry := ⟨0, .berth, .wash 1, 0⟩
    let p : Profile := ⟨.diesel, 1, 86400, false⟩
    let s : State := { seat yard 0 (record 12 .apron (some .apron) none) with
      router := { yard.router with apron := [e], scanPending := true } }
    s.boot = .running ∧ s.router.scanPending = true ∧ yard.router.scanPending = false ∧
    s.waitEntry 0 = some e ∧ s.visit 0 = some (record 12 .apron (some .apron) none) ∧
    s.profile 0 = some p ∧ s.targetFor p .berth = some (.lane 1) ∧ e.place = .apron ∧
    w.place = .wash 1 ∧ ({ s with lanes := setup.lanes } : State).targetFor p .berth = none ∧
    Stage.berth ≠ .fuel ∧ s.waitEntry 1 = none := by decide +kernel

/-- The exit-held head of island 1 with a berth; an entry for fuel whose stage is skipped, with a wash lane and with nothing left. -/
theorem test_DispatchMeetsIslandHeadsAndSkips :
    let p : Profile := ⟨.diesel, 1, 86400, false⟩
    (let e : WaitEntry := ⟨0, .berth, .island 1, 0⟩
     let i := { dieselIsland with queue := [0] }
     let s : State := { seat yard 0 (record 12 (.atIsland .done) (some (.island 1)) none) with
       islands := yard.islands.setIfInBounds 0 (some i)
       router := { yard.router with exitHeld := [e] } }
     s.waitEntry 0 = some e ∧ s.profile 0 = some p ∧ s.targetFor p .berth = some (.lane 1) ∧
     s.island 1 = some i) ∧
    (let e : WaitEntry := ⟨0, .fuel, .apron, 0⟩
     let v := { record 12 .apron (some .apron) none with
       fuelResult := .unset, washResult := WashResult.unset }
     let s : State := { seat yard 0 v with
       islands := setup.islands, router := { yard.router with apron := [e] } }
     s.waitEntry 0 = some e ∧ s.profile 0 = some p ∧ s.targetFor p .fuel = none ∧
     s.fuelSkipped p = true ∧ s.targetFor p .wash = some (.wash 1) ∧
     ({ s with washes := setup.washes } : State).targetFor p .wash = none) := by decide +kernel

theorem test_RequestFramesDecodeToTheRequest :
    (Instr.setClock 16777215 65535).wellFormed = true ∧
    (encodeFrame (.setClock 16777215 65535)).isSome = true ∧
    (Instr.trimClock (-128)).wellFormed = true ∧ (encodeFrame (.trimClock (-128))).isSome = true := by
  decide

/-- The open yard, and its ranges. -/
theorem yard_lineLaw : yard.LineLaw := by
  have h : ∀ a, a < 17 → ((yard.station a).all fun t =>
      decide (t.accumulator ≤ 9999 ∧ t.missed ≤ 3 ∧ t.pendingLevel = none)) = true := by
    decide +kernel
  refine ⟨by decide, fun a t ht => ?_⟩
  have ha : a < 17 := by
    unfold State.station at ht
    split at ht
    · cases ht
    · have := slotGet_lt _ _ _ ht
      omega
  have hd := h a ha
  rw [ht] at hd
  have hr := of_decide_eq_true hd
  exact ⟨hr.1, hr.2.1, fun n hn => by rw [hr.2.2] at hn; cases hn⟩

theorem test_StepKeepsClockPortLineAndStockLaws :
    yard.ClockLaw ∧ yard.PortLaw ∧ yard.LineLaw ∧ step yard = .next yard := by
  refine ⟨by decide, ⟨fun h => absurd rfl h, fun f h => ?_⟩, yard_lineLaw, rfl⟩
  cases h

/-- The record in slot 0 of `called`, which is the only one. -/
def calledVisit : Visit :=
  { record 12 .called (some (.lane 1)) none with movement := some .gate, duty := some 0 }

theorem called_visit {h : Nat} {v : Visit} (e : called.visit h = some v) :
    h = 0 ∧ v = calledVisit := by
  by_cases hk : h = 0
  · subst hk
    have h0 : called.visit 0 = some calledVisit := by decide +kernel
    rw [h0] at e
    cases e
    exact ⟨rfl, rfl⟩
  · rw [called_emptySlots h (State.visit_lt e) hk] at e
    cases e

theorem called_lane {n : Nat} {l : Lane} (e : called.lane n = some l) :
    (n = 1 ∧ l = { stackLane with list := [0], used := 1, mouth := some (.outbound 0 .gate) }) ∨
      (n = 2 ∧ l = { stackLane with kind := .through }) := by
  have all : ∀ k, k < 21 → ∀ g, called.lane k = some g →
      (k = 1 ∧ g = { stackLane with list := [0], used := 1, mouth := some (.outbound 0 .gate) }) ∨
        (k = 2 ∧ g = { stackLane with kind := .through }) := by
    intro k hk g
    have d : ∀ k, k < 21 → called.lane k = (if k = 1 then
        some { stackLane with list := [0], used := 1, mouth := some (.outbound 0 .gate) }
      else if k = 2 then some { stackLane with kind := .through } else none) := by decide +kernel
    rw [d k hk]
    intro hg
    split at hg
    · next h => exact .inl ⟨h, (Option.some.inj hg).symm⟩
    · split at hg
      · next h => exact .inr ⟨h, (Option.some.inj hg).symm⟩
      · cases hg
  exact all n (by have := State.lane_pos e; omega) l e

theorem called_island {n : Nat} {i : Island} (e : called.island n = some i) : i = dieselIsland := by
  have d : ∀ k, k < 7 → called.island k = if k = 1 then some dieselIsland else none := by
    decide +kernel
  rw [d n (by have := State.island_pos e; omega)] at e
  split at e
  · exact (Option.some.inj e).symm
  · cases e

theorem called_wash {n : Nat} {w : WashLane} (e : called.wash n = some w) : w = washLane := by
  have d : ∀ k, k < 4 → called.wash k = if k = 1 then some washLane else none := by decide +kernel
  rw [d n (by have := State.wash_pos e; omega)] at e
  split at e
  · exact (Option.some.inj e).symm
  · cases e

theorem called_listAt (p : Place) : called.listAt p = if p = .lane 1 then [0] else [] := by
  cases p with
  | apron => rfl
  | island n =>
    simp only [State.listAt]
    cases e : called.island n with
    | none => rfl
    | some i => rw [called_island e]; rfl
  | wash n =>
    simp only [State.listAt]
    cases e : called.wash n with
    | none => rfl
    | some w => rw [called_wash e]; rfl
  | lane n =>
    simp only [State.listAt]
    by_cases k : n = 1
    · subst k; decide +kernel
    · rw [if_neg (by simpa using k)]
      cases e : called.lane n with
      | none => rfl
      | some l =>
        rcases called_lane e with ⟨c, -⟩ | ⟨-, rfl⟩
        · exact absurd c k
        · rfl

theorem called_sent (g : Target) (hg : g ≠ .gate) : called.sent g = [] := by
  have hl : called.live = [0] := by decide +kernel
  have h0 : called.visit 0 = some calledVisit := by decide +kernel
  unfold State.sent
  rw [hl]
  have : calledVisit.sentTo g = false := by
    simp [Visit.sentTo, calledVisit, record, Ne.symm hg]
  simp [h0, this]

theorem called_linkLaw : called.LinkLaw := by
  have h0 : called.visit 0 = some calledVisit := by decide +kernel
  have reg : called.register = fleet := rfl
  refine ⟨fun e he h hi => ?_, fun h v hv => ?_⟩
  · rw [reg] at he
    simp only [fleet, List.mem_cons, List.not_mem_nil, or_false] at he
    rcases he with rfl | rfl
    · cases hi
      exact ⟨_, h0, rfl⟩
    · cases hi
  · obtain ⟨rfl, rfl⟩ := called_visit hv
    exact ⟨{ bus 12 with inYard := some 0 }, by decide +kernel, rfl⟩

/-- A yard with a record CALLED from lane 1 keeps every law of places and locks. -/
theorem called_yardLaw : called.YardLaw := by
  have h0 : called.visit 0 = some calledVisit := by decide +kernel
  have l1 : called.lane 1 =
      some { stackLane with list := [0], used := 1, mouth := some (.outbound 0 .gate) } := by
    decide +kernel
  have none_left : ∀ h n, ¬ called.LeavesWashFor h n := by
    rintro h n ⟨k, w, hw, hl, -⟩
    rw [called_wash hw] at hl
    cases hl
  refine ⟨⟨fun h v hv => ?_, fun p => ?_⟩, ⟨by decide, by decide, ?_, ?_⟩, ⟨fun n i hi => ?_, ?_⟩, ?_,
    ⟨fun n w hw => ?_, ?_⟩, ⟨fun n l hl => ?_, ?_, ?_⟩, ⟨fun slot d hd _ => ?_, fun h v hv _ => ?_⟩⟩
  · obtain ⟨rfl, rfl⟩ := called_visit hv
    refine ⟨⟨⟨rfl, rfl⟩, rfl, 1, rfl⟩, fun p => ?_⟩
    rw [called_listAt]
    split
    · next hp => subst hp; simp [calledVisit, record]
    · next hp => simp [calledVisit, record, Ne.symm hp]
  · rw [called_listAt]
    split
    · refine ⟨by decide, fun h hm => ?_⟩
      rw [List.mem_singleton.1 hm, h0]
      exact Option.some_ne_none _
    · exact ⟨by decide, fun h hm => absurd hm List.not_mem_nil⟩
  · intro e he
    cases he
  · intro e he
    cases he
  · rw [called_sent _ (by simp), called_island hi]
    refine ⟨by decide, rfl, fun h v hm => absurd hm List.not_mem_nil, fun t ht => (by cases ht),
      fun _ hq => absurd rfl hq⟩
  · intro h v n hv hs
    obtain ⟨rfl, rfl⟩ := called_visit hv
    simp [Visit.sentTo, calledVisit, record] at hs
  · intro k
    cases k <;> decide +kernel
  · rw [called_wash hw]
    exact ⟨by decide, rfl, fun h he => (by cases he), fun h v hm => absurd hm List.not_mem_nil,
      fun hp => (by cases hp), fun hd => absurd rfl hd, fun he => absurd rfl he⟩
  · intro h v n hv hs
    obtain ⟨rfl, rfl⟩ := called_visit hv
    simp [Visit.sentTo, calledVisit, record] at hs
  · rcases called_lane hl with ⟨rfl, rfl⟩ | ⟨rfl, rfl⟩
    · refine ⟨by decide +kernel, by decide, fun h => (by cases h), fun h hm => (by cases hm),
        fun h d hm => ⟨rfl, rfl⟩, fun m hm => (by cases hm), fun h d hm => ?_⟩
      cases hm
      exact ⟨rfl, _, h0, rfl⟩
    · refine ⟨rfl, by decide, fun _ => rfl, fun h hm => (by cases hm), fun h d hm => (by cases hm),
        fun m hm => (by cases hm), fun h d hm => (by cases hm)⟩
  · rintro h n (⟨v, hv, hs⟩ | hw)
    · obtain ⟨rfl, rfl⟩ := called_visit hv
      simp [Visit.sentTo, calledVisit, record] at hs
    · exact absurd hw (none_left h n)
  · intro h v n d hv hp hm
    obtain ⟨rfl, rfl⟩ := called_visit hv
    cases hp
    cases hm
    exact ⟨_, l1, rfl⟩
  · cases slot with
    | zero => cases hd; exact ⟨0, _, rfl, h0, rfl⟩
    | succ k => simp [called, State.duty, roster] at hd
  · obtain ⟨rfl, rfl⟩ := called_visit hv
    exact ⟨⟨0, duty 1 500 .called (some 0), rfl, rfl, rfl⟩, by decide, 1, _, rfl, l1, rfl, rfl⟩

theorem test_StepKeepsRegisterAndLinkLaws :
    let s : State := { called with cursor := 2, pending := [.add 9999 0 0 300 7 3 2 0] }
    s.RegisterLaw ∧ s.LinkLaw ∧ ∃ t, step s = .next t :=
  ⟨by decide +kernel, called_linkLaw, _, rfl⟩

theorem test_linkedRecords :
    called.visit 0 = some calledVisit ∧ calledVisit.fleet = calledVisit.fleet := by decide +kernel

theorem test_StepKeepsStockLaw_delivery :
    let s : State := { yard with pending := [.tankDelivery 0 1000] }
    s.StockLaw ∧ ∃ t, step s = .next t := ⟨by decide +kernel, _, rfl⟩

theorem test_StepKeepsYardLaws :
    let s : State := { called with pending := [.retire 0] }
    s.RegisterLaw ∧ s.LinkLaw ∧ s.SetupLaw ∧ s.BindingLaw ∧ s.ActiveLaw ∧ s.YardLaw ∧
      ∃ t, step s = .next t :=
  have y := called_yardLaw
  ⟨by decide +kernel, called_linkLaw, fun h => absurd rfl h, called_bindingLaw, called_activeLaw,
    ⟨y.places, y.waits, y.islands, y.committed, y.washes, y.lanes, y.calls⟩, _, rfl⟩

theorem test_StepKeepsRosterLaws :
    let s : State := { called with pending := [.rosterClose] }
    s.BindingLaw ∧ s.RosterLaw ∧ s.SetupLaw ∧ s.ActiveLaw ∧ ∃ t, step s = .next t :=
  ⟨called_bindingLaw, by decide +kernel, fun h => absurd rfl h, called_activeLaw, _, rfl⟩

end Sys2Proof.Tests
end

