-- ==== Sys2Proof/Proofs/Clock.lean ====
section
/-!
PROOFS. The family of the Yard Clock: what SET CLOCK and TRIM CLOCK answer and write (R18, R19).
-/
namespace Sys2Proof.Machine

/-! A taken request whose owner refuses it, and one whose owner answers it OK -/

/-- A refusal writes nothing: its answer stands in hand in the state that the request met. -/
theorem request_refused {code : Byte} {p : Phase → Bool} {owner : State → Outcome} {s : State}
    {r : Result} (taken : s.Takes p) (refused : owner s = s.refuse r) :
    request code p owner s = s.takeRequest ⟨code, r, []⟩ := by
  rw [request_taken _ _ _ _ taken, refused]
  rfl

/-- A request answered OK leaves what its owner wrote, with the answer's data in hand. -/
theorem request_ok {code : Byte} {p : Phase → Bool} {owner : State → Outcome} {s t : State}
    {data : List Byte} (taken : s.Takes p) (answered : owner s = t.ok data) :
    request code p owner s = t.takeRequest ⟨code, .ok, data⟩ := by
  rw [request_taken _ _ _ _ taken, answered]
  rfl

/-! The tests of the two requests -/

theorem within_iff {lo hi n : Nat} : within lo hi n = true ↔ lo ≤ n ∧ n ≤ hi := by
  simp [within]

/-- The rosters whose day SET CLOCK may not move (R18). -/
theorem Roster.givesKeys_iff {r : Roster} :
    r.givesKeys = true ↔ r.state = .armed ∨ r.state = .active := by
  simp [Roster.givesKeys]

/-- A trim out of its range, or one that would leave the day, gives no second (R19). -/
theorem trimmed_eq_none_iff {second : Nat} {amount : Int} :
    trimmed second amount = none ↔
      amount < -60 ∨ 60 < amount ∨ (second : Int) + amount < 0 ∨
        86399 < (second : Int) + amount := by
  unfold trimmed
  split <;> simp <;> omega

/-- The second that a trim gives is in the day and is the old one plus the amount (R19). -/
theorem trimmed_eq_some_iff {second k : Nat} {amount : Int} :
    trimmed second amount = some k ↔
      (-60 ≤ amount ∧ amount ≤ 60 ∧ k ≤ 86399) ∧ (k : Int) = second + amount := by
  unfold trimmed
  split <;> simp <;> omega

/-! SET CLOCK (R18) -/

theorem exec_setClock (second day : Nat) (s : State) :
    exec (.setClock second day) s = execSetClock second day s := rfl

theorem execSetClock_outOfRange {second day : Nat} {s : State} (taken : s.Takes inSetup)
    (out : 86399 < second ∨ 65535 < day) :
    execSetClock second day s = .next (s.takeRequest ⟨0x1B, .range, []⟩) := by
  have test : (!within 0 86399 second || !within 0 65535 day) = true := by
    simp only [Bool.or_eq_true, Bool.not_eq_true', ← Bool.not_eq_true, within_iff]
    omega
  exact congrArg Host.Outcome.next (request_refused taken (if_pos test))

/-- The range test that a second of the day and a day number of 16 bits pass. -/
theorem setClock_inRange {second day : Nat} (hs : second ≤ 86399) (hd : day ≤ 65535) :
    ¬ (!within 0 86399 second || !within 0 65535 day) = true := by
  simp [within_iff.2 ⟨Nat.zero_le _, hs⟩, within_iff.2 ⟨Nat.zero_le _, hd⟩]

theorem execSetClock_rosterFixed {second day : Nat} {s : State} (taken : s.Takes inSetup)
    (hs : second ≤ 86399) (hd : day ≤ 65535) (keys : s.roster.givesKeys = true) :
    execSetClock second day s = .next (s.takeRequest ⟨0x1B, .state, []⟩) :=
  congrArg Host.Outcome.next
    (request_refused taken ((if_neg (setClock_inRange hs hd)).trans (if_pos keys)))

theorem execSetClock_ok {second day : Nat} {s : State} (taken : s.Takes inSetup)
    (hs : second ≤ 86399) (hd : day ≤ 65535) (noKeys : ¬ s.roster.givesKeys = true) :
    execSetClock second day s = .next
      ((s.setClock { s.clock with
        second := second, day := day, isSet := true, divider := 0 }).takeRequest
          ⟨0x1B, .ok, []⟩) :=
  congrArg Host.Outcome.next
    (request_ok taken ((if_neg (setClock_inRange hs hd)).trans (if_neg noKeys)))

/-! TRIM CLOCK (R19) -/

theorem exec_trimClock (amount : Int) (s : State) :
    exec (.trimClock amount) s = execTrimClock amount s := rfl

theorem execTrimClock_refused {amount : Int} {s : State} (taken : s.Takes inOpen)
    (noSecond : trimmed s.clock.second amount = none) :
    execTrimClock amount s = .next (s.takeRequest ⟨0x1C, .range, []⟩) :=
  congrArg Host.Outcome.next (request_refused taken (by simp only [noSecond]))

theorem execTrimClock_ok {amount : Int} {s : State} {k : Nat} (taken : s.Takes inOpen)
    (gives : trimmed s.clock.second amount = some k) :
    execTrimClock amount s = .next
      ((s.setClock { s.clock with second := k }).takeRequest ⟨0x1C, .ok, bytes3 k⟩) :=
  congrArg Host.Outcome.next (request_ok taken (by simp only [gives, b3]))

/-- Settles O9: each clause is the lemma of its request's case, under the tests read as the rules write them. -/
theorem clockIsSetAndTrimmed : Obligations.ClockIsSetAndTrimmed := by
  unfold Obligations.ClockIsSetAndTrimmed
  simp only [exec_setClock, exec_trimClock]
  refine ⟨fun second day s taken => ⟨?range, ?state, ?set⟩,
    fun amount s taken => ⟨?trimRange, ?trim⟩⟩
  case range => exact execSetClock_outOfRange taken
  case state =>
    exact fun hs hd fixed => execSetClock_rosterFixed taken hs hd (Roster.givesKeys_iff.2 fixed)
  case set =>
    intro hs hd notArmed notActive
    exact execSetClock_ok taken hs hd
      fun keys => (Roster.givesKeys_iff.1 keys).elim notArmed notActive
  case trimRange => exact fun out => execTrimClock_refused taken (trimmed_eq_none_iff.2 out)
  case trim =>
    intro low high inDay beforeMidnight
    obtain ⟨k, sum⟩ := Int.eq_ofNat_of_zero_le inDay
    have second : trimmed s.clock.second amount = some k :=
      trimmed_eq_some_iff.2 ⟨⟨low, high, by omega⟩, sum.symm⟩
    exact ⟨k, sum.symm, execTrimClock_ok taken second⟩

end Sys2Proof.Machine
end

