-- ==== Sys2Proof/Proofs/Register.lean ====
section
/-!
PROOFS. The family of the Fleet Register: what ADD, REMOVE, READ NEXT and SEEK answer and write (R27, R28, R31, R32, R33).
-/
namespace Sys2Proof.Machine

/-! The lookup (R25): how it cuts the table at the index it gives -/

/-- A number that is not found cuts the table before the first entry of a greater number. -/
theorem lookupFrom_notFound_split {table : List Entry} {n k i : Nat}
    (notFound : lookupFrom table n k = .notFound i) :
    ∃ below above, table = below ++ above ∧ i = k + below.length ∧
      (∀ e ∈ below, e.fleet < n) ∧ ∀ e ∈ above.head?, n < e.fleet := by
  induction table generalizing k with
  | nil =>
    obtain rfl : k = i := Lookup.notFound.inj notFound
    exact ⟨[], [], rfl, rfl, by simp, by simp⟩
  | cons e es ih =>
    unfold lookupFrom at notFound
    split at notFound
    next => cases notFound
    next differs =>
      split at notFound
      next greater =>
        obtain rfl : k = i := Lookup.notFound.inj notFound
        exact ⟨[], e :: es, rfl, rfl, by simp, by simpa using greater⟩
      next notGreater =>
        obtain ⟨below, above, rfl, rfl, lower, greater⟩ := ih notFound
        refine ⟨e :: below, above, rfl, ?_, ?_, greater⟩
        · rw [List.length_cons]; omega
        · exact List.forall_mem_cons.2 ⟨by omega, lower⟩

theorem lookup_notFound_split {table : List Entry} {n i : Nat}
    (notFound : lookup table n = .notFound i) :
    ∃ below above, table = below ++ above ∧ i = below.length ∧
      (∀ e ∈ below, e.fleet < n) ∧ ∀ e ∈ above.head?, n < e.fleet := by
  obtain ⟨below, above, cut, index, bounds⟩ := lookupFrom_notFound_split notFound
  exact ⟨below, above, cut, index.trans (Nat.zero_add _), bounds⟩

theorem lookupFrom_found_getElem? {table : List Entry} {n k i : Nat} {e : Entry}
    (found : lookupFrom table n k = .found i e) : k ≤ i ∧ table[i - k]? = some e := by
  induction table generalizing k with
  | nil => cases found
  | cons x xs ih =>
    unfold lookupFrom at found
    split at found
    next =>
      obtain ⟨rfl, rfl⟩ := Lookup.found.inj found
      simp
    next =>
      split at found
      next => cases found
      next =>
        obtain ⟨above, there⟩ := ih found
        have index : i - k = (i - (k + 1)) + 1 := by omega
        exact ⟨by omega, by rw [index, List.getElem?_cons_succ, there]⟩

/-- The entry that a lookup finds stands at the index it gives. -/
theorem lookup_found_getElem? {table : List Entry} {n i : Nat} {e : Entry}
    (found : lookup table n = .found i e) : table[i]? = some e :=
  (lookupFrom_found_getElem? found).2

/-- In an ordered table every entry stands above its first one. -/
theorem forall_fleet_gt_of_head {table : List Entry} {n : Nat}
    (ordered : table.Pairwise fun a b => a.fleet < b.fleet)
    (greater : ∀ e ∈ table.head?, n < e.fleet) : ∀ e ∈ table, n < e.fleet := by
  cases table with
  | nil => simp
  | cons x xs =>
    have first : n < x.fleet := greater x rfl
    have rest := (List.pairwise_cons.1 ordered).1
    exact List.forall_mem_cons.2 ⟨first, fun e mem => Nat.lt_trans first (rest e mem)⟩

/-- An ordered table stays in order when an entry of the number looked up is put in at the insertion index. -/
theorem insert_at_lookup_ordered {table : List Entry} {i : Nat} {e : Entry}
    (notFound : lookup table e.fleet = .notFound i)
    (ordered : table.Pairwise fun a b => a.fleet < b.fleet) :
    (table.take i ++ e :: table.drop i).Pairwise fun a b => a.fleet < b.fleet := by
  obtain ⟨below, above, rfl, rfl, lower, greater⟩ := lookup_notFound_split notFound
  obtain ⟨belowOrdered, aboveOrdered, across⟩ := List.pairwise_append.1 ordered
  rw [List.take_left, List.drop_left, List.pairwise_append, List.pairwise_cons]
  exact ⟨belowOrdered, ⟨forall_fleet_gt_of_head aboveOrdered greater, aboveOrdered⟩,
    fun a mem => List.forall_mem_cons.2 ⟨lower a mem, across a mem⟩⟩

/-! The values of an entry (R27) -/

theorem fuelOf_eq_some_iff {n : Nat} {k : FuelKind} : fuelOf n = some k ↔ k.code = n := by
  rcases n with _ | _ | n <;> cases k <;> simp [fuelOf, FuelKind.code]

theorem lengthOf_eq_some_iff {n : Nat} {k : LengthClass} : lengthOf n = some k ↔ k.code = n := by
  rcases n with _ | _ | n <;> cases k <;> simp [lengthOf, LengthClass.code]

theorem boolOf_eq_some_iff {n : Nat} {b : Bool} : boolOf n = some b ↔ b.toNat = n := by
  rcases n with _ | _ | n <;> cases b <;> simp [boolOf]

theorem exists_fuelOf_iff {n : Nat} : (∃ k, fuelOf n = some k) ↔ n ≤ 1 := by
  rcases n with _ | _ | n <;> simp [fuelOf]

theorem exists_lengthOf_iff {n : Nat} : (∃ k, lengthOf n = some k) ↔ n ≤ 1 := by
  rcases n with _ | _ | n <;> simp [lengthOf]

theorem exists_boolOf_iff {n : Nat} : (∃ b, boolOf n = some b) ↔ n ≤ 1 := by
  rcases n with _ | _ | n <;> simp [boolOf]

/-- Values that are read are the operands, each in its range. -/
theorem valuesOf_eq_some_iff {fuel length tank interval program barred : Nat} {x : Values} :
    valuesOf fuel length tank interval program barred = some x ↔
      (fuelOf fuel = some x.fuel ∧ lengthOf length = some x.length ∧
        boolOf barred = some x.barred) ∧
      (x.tankSize = tank ∧ x.interval = interval ∧ x.program = program) ∧
      (1 ≤ tank ∧ tank ≤ 1000) ∧ interval ≤ 15 ∧ 1 ≤ program ∧ program ≤ 8 := by
  unfold valuesOf
  split
  next f l b hf hl hb =>
    simp only [hf, hl, hb, Option.some.injEq, Option.ite_none_right_eq_some, Bool.and_eq_true,
      within_iff, Nat.zero_le, true_and]
    constructor
    · rintro ⟨⟨⟨tankOk, intervalOk⟩, programOk⟩, rfl⟩
      exact ⟨⟨rfl, rfl, rfl⟩, ⟨rfl, rfl, rfl⟩, tankOk, intervalOk, programOk⟩
    · rintro ⟨⟨rfl, rfl, rfl⟩, ⟨rfl, rfl, rfl⟩, tankOk, intervalOk, programOk⟩
      exact ⟨⟨⟨tankOk, intervalOk⟩, programOk⟩, rfl⟩
  next unread =>
    simp only [reduceCtorEq, false_iff]
    rintro ⟨⟨hf, hl, hb⟩, -⟩
    exact unread _ _ _ hf hl hb

/-- The six values are read exactly where all six lie in their ranges. -/
theorem exists_valuesOf_iff {fuel length tank interval program barred : Nat} :
    (∃ x, valuesOf fuel length tank interval program barred = some x) ↔
      (fuel ≤ 1 ∧ length ≤ 1 ∧ barred ≤ 1) ∧
      (1 ≤ tank ∧ tank ≤ 1000) ∧ interval ≤ 15 ∧ 1 ≤ program ∧ program ≤ 8 := by
  rw [← exists_fuelOf_iff, ← exists_lengthOf_iff, ← exists_boolOf_iff]
  constructor
  · rintro ⟨x, read⟩
    obtain ⟨⟨hf, hl, hb⟩, -, ranges⟩ := valuesOf_eq_some_iff.1 read
    exact ⟨⟨⟨_, hf⟩, ⟨_, hl⟩, ⟨_, hb⟩⟩, ranges⟩
  · rintro ⟨⟨⟨f, hf⟩, ⟨l, hl⟩, ⟨b, hb⟩⟩, ranges⟩
    exact ⟨⟨f, l, tank, interval, program, b⟩,
      valuesOf_eq_some_iff.2 ⟨⟨hf, hl, hb⟩, ⟨rfl, rfl, rfl⟩, ranges⟩⟩

/-! The number of a vehicle, the test that REMOVE and SEEK make of it -/

theorem fleet_outOfRange {fleet : Nat} (out : ¬ (1 ≤ fleet ∧ fleet ≤ 9999)) :
    (!within 1 9999 fleet) = true := by
  rwa [Bool.not_eq_true', ← Bool.not_eq_true, within_iff]

theorem fleet_inRange {fleet : Nat} (low : 1 ≤ fleet) (high : fleet ≤ 9999) :
    ¬ (!within 1 9999 fleet) = true := by
  simp [within_iff.2 ⟨low, high⟩]

/-! What an insertion and a removal write (R27, R28, R33) -/

theorem State.insertEntry_eq (s : State) (i : Nat) (e : Entry) :
    s.insertEntry i e = { s with
      register := s.register.take i ++ e :: s.register.drop i
      cursor := if s.cursor < 256 ∧ i ≤ s.cursor then s.cursor + 1 else s.cursor } := rfl

theorem State.insertEntry_length (s : State) (i : Nat) (e : Entry) :
    (s.insertEntry i e).register.length = s.register.length + 1 := by
  simp only [State.insertEntry_eq, List.length_append, List.length_cons, List.length_take,
    List.length_drop]
  omega

theorem State.removeEntry_eq (s : State) (i : Nat) :
    s.removeEntry i = { s with
      register := s.register.eraseIdx i
      cursor := if s.cursor < 256 ∧ i < s.cursor then s.cursor - 1 else s.cursor } := rfl

/-- The removal of an entry that a lookup found leaves one entry less. -/
theorem State.removeEntry_length {s : State} {n i : Nat} {e : Entry}
    (found : lookup s.register n = .found i e) :
    (s.removeEntry i).register.length = s.register.length - 1 := by
  obtain ⟨inTable, -⟩ := List.getElem?_eq_some_iff.1 (lookup_found_getElem? found)
  exact List.length_eraseIdx_of_lt inTable

/-! ADD (R27) -/

/-- The entry that ADD inserts: the values given, and in-yard absent. -/
def Values.newEntry (x : Values) (fleet age : Nat) : Entry where
  fleet := fleet
  fuel := x.fuel
  length := x.length
  tankSize := x.tankSize
  interval := x.interval
  age := age
  program := x.program
  barred := x.barred
  inYard := none

theorem exec_add (fleet fuel length tank interval age program barred : Nat) (s : State) :
    exec (.add fleet fuel length tank interval age program barred) s =
      execAdd fleet fuel length tank interval age program barred s := rfl

section Add
variable {fleet fuel length tank interval age program barred : Nat} {s : State}

/-- The range test of ADD, as its two parts read it. -/
theorem addTest_iff :
    ((within 1 9999 fleet && within 0 255 age) = true ∧
        ∃ x, valuesOf fuel length tank interval program barred = some x) ↔
      1 ≤ fleet ∧ fleet ≤ 9999 ∧ fuel ≤ 1 ∧ length ≤ 1 ∧ 1 ≤ tank ∧ tank ≤ 1000 ∧
        interval ≤ 15 ∧ age ≤ 255 ∧ 1 ≤ program ∧ program ≤ 8 ∧ barred ≤ 1 := by
  rw [exists_valuesOf_iff, Bool.and_eq_true, within_iff, within_iff]
  omega

theorem execAdd_outOfRange (taken : s.Takes inBoth)
    (out : ¬ ((within 1 9999 fleet && within 0 255 age) = true ∧
      ∃ x, valuesOf fuel length tank interval program barred = some x)) :
    execAdd fleet fuel length tank interval age program barred s =
      .next (s.takeRequest ⟨0x21, .range, []⟩) := by
  refine congrArg Host.Outcome.next (request_refused taken ?_)
  split
  next x numbers values => exact absurd ⟨numbers, x, values⟩ out
  next => rfl

variable {x : Values} (taken : s.Takes inBoth)
  (numbers : (within 1 9999 fleet && within 0 255 age) = true)
  (values : valuesOf fuel length tank interval program barred = some x)
include taken numbers values

theorem execAdd_conflict {i : Nat} {e : Entry} (found : lookup s.register fleet = .found i e) :
    execAdd fleet fuel length tank interval age program barred s =
      .next (s.takeRequest ⟨0x21, .conflict, []⟩) :=
  congrArg Host.Outcome.next
    (request_refused taken (by simp only [numbers, values, found]))

theorem execAdd_full {i : Nat} (notFound : lookup s.register fleet = .notFound i)
    (full : 256 ≤ s.register.length) :
    execAdd fleet fuel length tank interval age program barred s =
      .next (s.takeRequest ⟨0x21, .full, []⟩) :=
  congrArg Host.Outcome.next
    (request_refused taken (by simp only [numbers, values, notFound]; exact if_pos full))

theorem execAdd_inserted {i : Nat} (notFound : lookup s.register fleet = .notFound i)
    (room : s.register.length < 256) :
    execAdd fleet fuel length tank interval age program barred s =
      .next ((s.insertEntry i (x.newEntry fleet age)).takeRequest
        ⟨0x21, .ok, byte i :: bytes2 (s.register.length + 1)⟩) := by
  refine congrArg Host.Outcome.next (request_ok taken ?_)
  simp only [numbers, values, notFound]
  refine (if_neg (Nat.not_le.2 room)).trans ?_
  rw [← State.insertEntry_length s i (x.newEntry fleet age)]
  rfl

end Add

/-! REMOVE (R28) -/

theorem exec_remove (fleet : Nat) (s : State) : exec (.remove fleet) s = execRemove fleet s := rfl

section Remove
variable {fleet i : Nat} {e : Entry} {s : State} (taken : s.Takes inBoth)
include taken

theorem execRemove_outOfRange (out : ¬ (1 ≤ fleet ∧ fleet ≤ 9999)) :
    execRemove fleet s = .next (s.takeRequest ⟨0x22, .range, []⟩) :=
  congrArg Host.Outcome.next (request_refused taken (if_pos (fleet_outOfRange out)))

variable (low : 1 ≤ fleet) (high : fleet ≤ 9999)
include low high

theorem execRemove_notFound (notFound : lookup s.register fleet = .notFound i) :
    execRemove fleet s = .next (s.takeRequest ⟨0x22, .notFound, []⟩) :=
  congrArg Host.Outcome.next
    (request_refused taken ((if_neg (fleet_inRange low high)).trans (by simp only [notFound])))

variable (found : lookup s.register fleet = .found i e)
include found

theorem execRemove_inYard (inYard : e.inYard ≠ none) :
    execRemove fleet s = .next (s.takeRequest ⟨0x22, .state, []⟩) := by
  refine congrArg Host.Outcome.next
    (request_refused taken ((if_neg (fleet_inRange low high)).trans ?_))
  simp only [found]
  exact if_pos (Option.isSome_iff_ne_none.2 inYard)

theorem execRemove_removed (absent : e.inYard = none) :
    execRemove fleet s = .next ((s.removeEntry i).takeRequest
      ⟨0x22, .ok, byte i :: bytes2 (s.register.length - 1)⟩) := by
  refine congrArg Host.Outcome.next
    (request_ok taken ((if_neg (fleet_inRange low high)).trans ?_))
  simp only [found, absent]
  rw [← State.removeEntry_length found]
  rfl

end Remove

/-! READ NEXT (R31) and SEEK (R32) -/

theorem exec_readNext (s : State) : exec .readNext s = execReadNext s := rfl

theorem exec_seek (fleet : Nat) (s : State) : exec (.seek fleet) s = execSeek fleet s := rfl

section Cursor
variable {s : State} (taken : s.Takes inBoth)
include taken

theorem execReadNext_entry {e : Entry} (there : s.register[s.cursor]? = some e) :
    execReadNext s = .next ((s.setCursor (s.cursor + 1)).takeRequest
      ⟨0x25, .ok, entryAnswer s s.cursor e⟩) :=
  congrArg Host.Outcome.next (request_ok taken (by simp only [State.readNext, there]))

/-- The end mark is written, so this refusal is no `request_refused`. -/
theorem execReadNext_end (past : s.register.length ≤ s.cursor) :
    execReadNext s = .next ((s.setCursor 256).takeRequest ⟨0x25, .notFound, []⟩) := by
  have nothing := List.getElem?_eq_none past
  have answer : s.readNext = (s.setCursor 256).refuse .notFound := by
    simp only [State.readNext, nothing, Config.cursorEnd]
  exact congrArg Host.Outcome.next ((request_taken _ _ _ _ taken).trans (by rw [answer]; rfl))

theorem execSeek_outOfRange {fleet : Nat} (out : ¬ (1 ≤ fleet ∧ fleet ≤ 9999)) :
    execSeek fleet s = .next (s.takeRequest ⟨0x26, .range, []⟩) :=
  congrArg Host.Outcome.next (request_refused taken (if_pos (fleet_outOfRange out)))

theorem execSeek_index {fleet : Nat} (low : 1 ≤ fleet) (high : fleet ≤ 9999) :
    execSeek fleet s =
      .next ((s.setCursor (lookup s.register fleet).index).takeRequest
        ⟨0x26, .ok, b2 (lookup s.register fleet).index ++ b2 s.register.length⟩) :=
  congrArg Host.Outcome.next (request_ok taken (if_neg (fleet_inRange low high)))

end Cursor

/-- Settles O11: the three refusals and the insertion are ADD's four cases, once the range test is read as its two parts. -/
theorem addInsertsTheVehicle : Obligations.AddInsertsTheVehicle := by
  unfold Obligations.AddInsertsTheVehicle
  simp only [exec_add, ← addTest_iff]
  intro fleet fuel length tank interval age program barred s taken
  refine ⟨execAdd_outOfRange taken, ?conflict, ?full, ?inserted⟩
  case conflict =>
    rintro i e ⟨numbers, x, values⟩
    exact execAdd_conflict taken numbers values
  case full =>
    rintro i ⟨numbers, x, values⟩
    exact execAdd_full taken numbers values
  case inserted =>
    rintro i ⟨numbers, x, values⟩ notFound room
    obtain ⟨⟨hf, hl, hb⟩, ⟨ht, hi, hp⟩, -⟩ := valuesOf_eq_some_iff.1 values
    have barredSame : x.barred = true ↔ barred = 1 := by
      rw [← boolOf_eq_some_iff.1 hb, Bool.toNat_eq_one]
    exact ⟨x.newEntry fleet age, rfl, fuelOf_eq_some_iff.1 hf, lengthOf_eq_some_iff.1 hl, ht, hi,
      rfl, hp, barredSame, rfl, insert_at_lookup_ordered notFound,
      execAdd_inserted taken numbers values notFound room⟩

/-- Settles O12: each clause is the lemma of its case of REMOVE. -/
theorem removeTakesTheVehicleOut : Obligations.RemoveTakesTheVehicleOut := by
  unfold Obligations.RemoveTakesTheVehicleOut
  simp only [exec_remove]
  intro fleet s taken
  refine ⟨execRemove_outOfRange taken, ?notFound, ?found⟩
  case notFound => exact fun i low high => execRemove_notFound taken low high
  case found =>
    exact fun i e low high found =>
      ⟨execRemove_inYard taken low high found, execRemove_removed taken low high found⟩

/-- Settles O14: READ NEXT by whether an entry stands at the cursor, SEEK by the index that its lookup gives. -/
theorem readNextAndSeekMoveTheCursor : Obligations.ReadNextAndSeekMoveTheCursor := by
  unfold Obligations.ReadNextAndSeekMoveTheCursor
  simp only [exec_readNext, exec_seek]
  refine ⟨fun s taken => ⟨fun e => execReadNext_entry taken, execReadNext_end taken⟩,
    fun fleet s taken => ⟨execSeek_outOfRange taken, ?seek⟩⟩
  case seek =>
    intro low high i outcome
    have index : (lookup s.register fleet).index = i := by
      rcases outcome with notFound | ⟨e, found⟩
      · rw [notFound]; rfl
      · rw [found]; rfl
    exact index ▸ execSeek_index taken low high

end Sys2Proof.Machine
end

