-- ==== Sys2Proof/Proofs/Islands.lean ====
section
/-!
PROOFS. The family of the fuel islands and tank stock: what TANK DELIVERY, TANK SET and TANK answer and write, and the comparison of R103 that each of them brings (R4, R103, R104, R105).
-/
namespace Sys2Proof.Machine

/-! The comparison of R103 -/

theorem Tank.compare_eq (t : Tank) :
    t.compare = { t with
      lowFlag := decide (t.stock ≤ t.lowLevel * t.capacity / 16)
      reserveFlag := decide (t.stock ≤ t.reserveLevel * t.capacity / 16)
      lowLatch :=
        if decide (t.stock ≤ t.lowLevel * t.capacity / 16) = true ∧ t.lowFlag = false ∧
          t.lowLatch = none then some t.stock else t.lowLatch } := by
  have latch : ∀ low : Bool,
      (if low && !t.lowFlag then t.lowLatch <|> some t.stock else t.lowLatch) =
        if low = true ∧ t.lowFlag = false ∧ t.lowLatch = none then some t.stock
          else t.lowLatch := by
    intro low
    cases t.lowLatch <;> simp
  exact congrArg (Tank.mk _ _ _ _ _ _ _) (latch _)

@[simp] theorem Tank.compare_stock (t : Tank) : t.compare.stock = t.stock := rfl
@[simp] theorem Tank.compare_committed (t : Tank) : t.compare.committed = t.committed := rfl

/-- What a tank's new stock, capacity or levels write: the tank with its flags compared, and the scan due where the reserve flag clears. -/
theorem State.compareStock_eq (s : State) (k : FuelKind) (t : Tank) :
    s.compareStock k t =
      let low := decide (t.stock ≤ t.lowLevel * t.capacity / 16)
      let reserve := decide (t.stock ≤ t.reserveLevel * t.capacity / 16)
      { (s.setTank k { t with
          lowFlag := low, reserveFlag := reserve
          lowLatch := if low = true ∧ t.lowFlag = false ∧ t.lowLatch = none then some t.stock
            else t.lowLatch }) with
        router := if t.reserveFlag = true ∧ reserve = false
          then { s.router with scanPending := true } else s.router } := by
  have router : (s.setTank k t.compare).router = s.router := State.setTank_router ..
  have clears : (t.reserveFlag && !t.compare.reserveFlag) = true ↔
      t.reserveFlag = true ∧ decide (t.stock ≤ t.reserveLevel * t.capacity / 16) = false := by
    rw [Bool.and_eq_true, Bool.not_eq_true']
    rfl
  simp only [State.compareStock, ← Tank.compare_eq, clears, ← router]
  split <;> rfl

@[simp] theorem State.compareStock_tank (s : State) (k : FuelKind) (t : Tank) :
    (s.compareStock k t).tank k = t.compare := by
  rw [State.compareStock_eq, Tank.compare_eq]
  exact State.setTank_tank s k _

/-! The operands and the flags of an answer -/

theorem fuelOf_code (k : FuelKind) : fuelOf k.code = some k := fuelOf_eq_some_iff.2 rfl

theorem fuelOf_eq_none {f : Nat} (unknown : 2 ≤ f) : fuelOf f = none := by
  cases read : fuelOf f with
  | none => rfl
  | some k =>
    have known : f ≤ 1 := exists_fuelOf_iff.1 ⟨k, read⟩
    omega

theorem not_within_iff {lo hi n : Nat} : (!within lo hi n) = true ↔ n < lo ∨ hi < n := by
  rw [Bool.not_eq_true', ← Bool.not_eq_true, within_iff]
  omega

theorem flagBytes_eq (t : Tank) :
    flagBytes t = [if t.lowFlag then (1 : Byte) else 0, if t.reserveFlag then 1 else 0] := by
  unfold flagBytes
  cases t.lowFlag <;> cases t.reserveFlag <;> rfl

/-! TANK DELIVERY (R104) -/

theorem exec_tankDelivery (f q : Nat) (s : State) :
    exec (.tankDelivery f q) s = execTankDelivery f q s := rfl

theorem execTankDelivery_outOfRange {f q : Nat} {s : State} (taken : s.Takes inBoth)
    (out : 2 ≤ f ∨ q < 1 ∨ 65535 < q) :
    execTankDelivery f q s = .next (s.takeRequest ⟨0x44, .range, []⟩) := by
  refine congrArg Host.Outcome.next (request_refused taken ?_)
  rcases out with unknown | out
  · rw [fuelOf_eq_none unknown]
  · cases fuelOf f with
    | none => rfl
    | some k => exact if_pos (not_within_iff.2 out)

theorem execTankDelivery_accepted {k : FuelKind} {q accepted : Nat} {s u : State}
    (taken : s.Takes inBoth) (low : 1 ≤ q) (high : q ≤ 65535)
    (fits : accepted = min q ((s.tank k).capacity - (s.tank k).stock))
    (writes : s.compareStock k { s.tank k with stock := (s.tank k).stock + accepted } = u) :
    execTankDelivery k.code q s = .next (u.takeRequest ⟨0x44, .ok,
      bytes2 accepted ++ bytes2 (q - accepted) ++ bytes2 ((s.tank k).stock + accepted) ++
        flagBytes (u.tank k)⟩) := by
  have stock : (u.tank k).stock = (s.tank k).stock + accepted := by
    rw [← writes, State.compareStock_tank, Tank.compare_stock]
  have inRange : ¬ (!within 1 65535 q) = true := by rw [not_within_iff]; omega
  refine congrArg Host.Outcome.next (request_ok taken ?_)
  rw [← stock, fuelOf_code, ← writes, fits]
  exact if_neg inRange

/-! TANK SET (R105) -/

theorem exec_tankSet (f q : Nat) (s : State) : exec (.tankSet f q) s = execTankSet f q s := rfl

theorem execTankSet_outOfRange {f q : Nat} {s : State} (taken : s.Takes inBoth)
    (unknown : 2 ≤ f) : execTankSet f q s = .next (s.takeRequest ⟨0x45, .range, []⟩) :=
  congrArg Host.Outcome.next (request_refused taken (by rw [fuelOf_eq_none unknown]))

section TankSet
variable {k : FuelKind} {q : Nat} {s : State} (taken : s.Takes inBoth)
include taken

theorem execTankSet_outOfBounds (out : q < (s.tank k).committed ∨ (s.tank k).capacity < q) :
    execTankSet k.code q s = .next (s.takeRequest ⟨0x45, .state, []⟩) :=
  congrArg Host.Outcome.next (request_refused taken (by rw [fuelOf_code]; exact if_pos out))

theorem execTankSet_ok {u : State} (low : (s.tank k).committed ≤ q)
    (high : q ≤ (s.tank k).capacity)
    (writes : s.compareStock k { s.tank k with stock := q } = u) :
    execTankSet k.code q s = .next (u.takeRequest ⟨0x45, .ok,
      bytes2 q ++ bytes2 (s.tank k).committed ++ flagBytes (u.tank k)⟩) := by
  have tank : u.tank k = ({ s.tank k with stock := q } : Tank).compare := by
    rw [← writes, State.compareStock_tank]
  have inRange : ¬ (q < (s.tank k).committed ∨ (s.tank k).capacity < q) := by omega
  refine congrArg Host.Outcome.next (request_ok taken ?_)
  rw [fuelOf_code]
  refine (if_neg inRange).trans ?_
  rw [writes]
  simp only [tank, Tank.compare_stock, Tank.compare_committed, b2]

end TankSet

/-! TANK (R4) -/

theorem exec_tank (f c l r : Nat) (s : State) : exec (.tank f c l r) s = execTank f c l r s := rfl

/-- The range test of TANK, read as R4 writes it. -/
theorem tankTest_iff {c l r : Nat} :
    (!within 1 65535 c || !within 1 14 l || !within 1 14 r || decide (l ≤ r)) = true ↔
      ¬ (1 ≤ c ∧ c ≤ 65535 ∧ 1 ≤ r ∧ r < l ∧ l ≤ 14) := by
  simp only [Bool.or_eq_true, not_within_iff, decide_eq_true_iff]
  omega

theorem execTank_outOfRange {f c l r : Nat} {s : State} (taken : s.Takes inSetup)
    (out : 2 ≤ f ∨ ¬ (1 ≤ c ∧ c ≤ 65535 ∧ 1 ≤ r ∧ r < l ∧ l ≤ 14)) :
    execTank f c l r s = .next (s.takeRequest ⟨0x13, .range, []⟩) := by
  refine congrArg Host.Outcome.next (request_refused taken ?_)
  rcases out with unknown | out
  · rw [fuelOf_eq_none unknown]
  · cases fuelOf f with
    | none => rfl
    | some k => exact if_pos (tankTest_iff.2 out)

section Tank
variable {k : FuelKind} {c l r : Nat} {s : State} (taken : s.Takes inSetup)
  (inRange : 1 ≤ c ∧ c ≤ 65535 ∧ 1 ≤ r ∧ r < l ∧ l ≤ 14)
include taken inRange

theorem execTank_overfull (overfull : c < (s.tank k).stock) :
    execTank k.code c l r s = .next (s.takeRequest ⟨0x13, .state, []⟩) := by
  refine congrArg Host.Outcome.next (request_refused taken ?_)
  rw [fuelOf_code]
  exact (if_neg fun out => tankTest_iff.1 out inRange).trans (if_pos overfull)

theorem execTank_ok {u : State} (fits : (s.tank k).stock ≤ c)
    (writes : s.compareStock k
      { s.tank k with capacity := c, lowLevel := l, reserveLevel := r } = u) :
    execTank k.code c l r s = .next (u.takeRequest ⟨0x13, .ok, []⟩) := by
  refine congrArg Host.Outcome.next (request_ok taken ?_)
  rw [fuelOf_code, ← writes]
  exact (if_neg fun out => tankTest_iff.1 out inRange).trans (if_neg (Nat.not_lt.2 fits))

end Tank

/-- Settles O33: each clause is the lemma of its request's case, with the comparison of R103 and the flag bytes written out. -/
theorem stockRequestsCompareTheFlags : Obligations.StockRequestsCompareTheFlags := by
  unfold Obligations.StockRequestsCompareTheFlags
  simp only [exec_tankDelivery, exec_tankSet, exec_tank, ← flagBytes_eq]
  intro k q s
  refine ⟨fun taken => ⟨?delivery, ?deliveryRange, ?set, execTankSet_outOfBounds taken,
    fun f => execTankSet_outOfRange taken⟩, fun taken c l r => ⟨?tank, execTank_overfull taken,
    fun f => execTank_outOfRange taken⟩⟩
  case delivery =>
    exact fun low high =>
      execTankDelivery_accepted taken low high rfl (State.compareStock_eq ..)
  case deliveryRange => exact fun f out => execTankDelivery_outOfRange taken (by omega)
  case set => exact fun low high => execTankSet_ok taken low high (State.compareStock_eq ..)
  case tank => exact fun inRange fits => execTank_ok taken inRange fits (State.compareStock_eq ..)

end Sys2Proof.Machine
end

