-- ==== Sys2Proof/Proofs/Washes.lean ====
section
/-!
PROOFS. The family of the wash lanes: how READY and CYCLE-ON of a wash station start a cycle (R112, R113, R114).
-/
namespace Sys2Proof.Machine

/-! Codes that need no key and no number -/

/-- Neither the key nor the accumulator is tested: the owner of such a code acts on the state with the entry taken. -/
theorem translate_plain {s : State} {e : CodeEntry} {t : Station} {kind : StationKind} {b : Nat}
    {c : Code} (owner : Owner) (keyed : s.Keyed e t kind b) (code : functionCode kind b = c)
    (noDigit : ¬ (0x30 ≤ b ∧ b ≤ 0x39)) (noClear : b ≠ 0x1B)
    (noKey : c.keyOn = false) (noNumber : c.consumes = false) :
    translate c owner s =
      (settle s.popCode (owner s.popCode e.address t.facility t.accumulator).1).setReply e.address
        (owner s.popCode e.address t.facility t.accumulator).2 := by
  have ⟨_, _, _, _, _, byte⟩ := keyed
  rw [translate_owner keyed c owner ((codeOf_function kind e.code b byte noDigit noClear).trans code)
    (by simp [noKey]) (by simp [noNumber])]
  simp [noNumber]

/-! The head of a wash lane -/

section Lane
variable {s : State} {n : Nat} {w : WashLane} (lane : s.wash n = some w)
include lane

theorem washHead_empty (empty : w.list = []) : s.washHead n = none := by
  simp [State.washHead, lane, empty]

theorem washHead_record {h : Nat} {v : Visit} (head : w.list.head? = some h)
    (record : s.visit h = some v) : s.washHead n = some (h, v) := by
  obtain ⟨rest, list⟩ := List.head?_eq_some_iff.1 head
  simp [State.washHead, lane, list, record]

/-! The start of a cycle (R113) -/

theorem startCycle_empty (empty : w.list = []) : s.startCycle n = s := by
  simp [State.startCycle, lane, empty]

theorem startCycle_noRecord {h : Nat} {rest : List Nat} (list : w.list = h :: rest)
    (noRecord : s.visit h = none) : s.startCycle n = s := by
  simp [State.startCycle, lane, list, noRecord]

/-- With a head of a live record, the four conditions alone decide. -/
theorem startCycle_record {h : Nat} {rest : List Nat} {v : Visit} (list : w.list = h :: rest)
    (record : s.visit h = some v) :
    s.startCycle n =
      if v.state = .atWash .queued ∧ w.startPosted = false ∧ w.machineReady = true ∧
          w.state ≠ .fault then
        ({ s with
          washes := s.washes.setIfInBounds (n - 1)
            (some { w with startPosted := true, machineReady := false }) } : State).postAt .wash n
              (.washStart (((s.entry v.fleet).map (·.program)).getD 0))
      else s := by
  have number : n ≠ 0 := by have := State.wash_pos lane; omega
  simp only [State.startCycle, lane, list, record, State.putWash_eq _ _ _ number,
    Bool.not_eq_true']
  cases s.entry v.fleet <;> rfl

theorem startCycle_starts {h : Nat} {v : Visit} {x : Entry} (head : w.list.head? = some h)
    (record : s.visit h = some v) (entry : s.entry v.fleet = some x)
    (queued : v.state = .atWash .queued) (notPosted : w.startPosted = false)
    (ready : w.machineReady = true) (noFault : w.state ≠ .fault) :
    s.startCycle n = ({ s with
      washes := s.washes.setIfInBounds (n - 1)
        (some { w with startPosted := true, machineReady := false }) } : State).postAt .wash n
          (.washStart x.program) := by
  obtain ⟨rest, list⟩ := List.head?_eq_some_iff.1 head
  rw [startCycle_record lane list record, if_pos ⟨queued, notPosted, ready, noFault⟩, entry,
    Option.map_some, Option.getD_some]

/-- One condition fails: nothing starts. A lane without a head fails the first. -/
theorem startCycle_none
    (fails : (∀ h v, w.list.head? = some h → s.visit h = some v → v.state ≠ .atWash .queued) ∨
      w.startPosted = true ∨ w.machineReady = false ∨ w.state = .fault) : s.startCycle n = s := by
  cases list : w.list with
  | nil => exact startCycle_empty lane list
  | cons h rest =>
    cases record : s.visit h with
    | none => exact startCycle_noRecord lane list record
    | some v =>
      rw [startCycle_record lane list record]
      refine if_neg ?_
      rintro ⟨queued, notPosted, ready, noFault⟩
      rcases fails with notQueued | posted | notReady | fault
      · exact notQueued h v (by rw [list]; rfl) record queued
      · simp [posted] at notPosted
      · simp [notReady] at ready
      · exact noFault fault

/-! READY (R112) and CYCLE-ON (R114) at the lane -/

theorem readyAt_eq : s.readyAt n =
    (State.startCycle { s with
      washes := s.washes.setIfInBounds (n - 1) (some { w with machineReady := true }) } n,
      .accept) := by
  rw [State.readyAt, State.modWash_eq lane]

theorem cycleOnAt_posted {h : Nat} {v : Visit} (head : w.list.head? = some h)
    (record : s.visit h = some v) (posted : w.startPosted = true) :
    s.cycleOnAt n = (State.postAt { s with
      visits := s.visits.setIfInBounds h (some { v with state := .atWash .washing })
      washes := s.washes.setIfInBounds (n - 1) (some { w with startPosted := false }) }
        .wash n .blank, .accept) := by
  simp only [State.cycleOnAt, lane, washHead_record lane head record, posted, if_true,
    State.modWash_eq lane, State.setSub]
  rw [State.modVisit_eq (by exact record)]

theorem cycleOnAt_refused (noCycle : w.startPosted = false ∨ w.list = []) :
    s.cycleOnAt n = (s, .refuse .notExpected) := by
  unfold State.cycleOnAt
  rw [lane]
  rcases noCycle with notPosted | empty
  · cases s.washHead n with
    | none => rfl
    | some head => simp [notPosted]
  · rw [washHead_empty lane empty]

end Lane

/-! The codes READY and CYCLE-ON of a wash station -/

theorem exec_ready {s : State} {e : CodeEntry} {t : Station} (keyed : s.Keyed e t .wash 0x52) :
    exec .ready s =
      .next ((settle s.popCode (s.popCode.readyAt t.facility).1).setReply e.address
        (s.popCode.readyAt t.facility).2) :=
  congrArg Host.Outcome.next
    (translate_plain _ keyed rfl (by omega) (by omega) rfl rfl)

theorem exec_cycleOn {s : State} {e : CodeEntry} {t : Station} (keyed : s.Keyed e t .wash 0x57) :
    exec .cycleOn s =
      .next ((settle s.popCode (s.popCode.cycleOnAt t.facility).1).setReply e.address
        (s.popCode.cycleOnAt t.facility).2) :=
  congrArg Host.Outcome.next
    (translate_plain _ keyed rfl (by omega) (by omega) rfl rfl)

/-- Settles O34: each clause is the lemma of its case, for the lane as it stands once the code has left the queue. -/
theorem readyStartsTheCycle : Obligations.ReadyStartsTheCycle := by
  unfold Obligations.ReadyStartsTheCycle
  rintro n e t w s rfl lane
  have lanePopped : s.popCode.wash t.facility = some w := lane
  refine ⟨?ready, ?starts, startCycle_none lane, ?cycleOn⟩
  case ready =>
    intro keyed
    rw [exec_ready keyed, readyAt_eq lanePopped]
  case starts =>
    exact fun h v x head record entry => startCycle_starts lane head record entry
  case cycleOn =>
    refine fun keyed => ⟨fun h v head record posted => ?posted, fun noCycle => ?refused⟩
    case posted => rw [exec_cycleOn keyed, cycleOnAt_posted lanePopped head record posted]
    case refused => rw [exec_cycleOn keyed, cycleOnAt_refused lanePopped noCycle, settle_self]

end Sys2Proof.Machine
end

