-- ==== Sys2Proof/Proofs/Roster.lean ====
section
/-!
PROOFS. The family of the duty roster: what ROSTER LOAD, DUTY ADD and ROSTER ARM answer and write (R145, R146).
-/
namespace Sys2Proof.Machine

/-! ROSTER LOAD (R145) -/

theorem exec_rosterLoad (day releaseEnd : Nat) (s : State) :
    exec (.rosterLoad day releaseEnd) s = execRosterLoad day releaseEnd s := rfl

/-- The range test of ROSTER LOAD, read as R145 writes it. -/
theorem rosterLoadTest_iff {day releaseEnd : Nat} :
    (!within 0 65535 day || !within 0 86399 releaseEnd) = true ↔
      65535 < day ∨ 86399 < releaseEnd := by
  simp only [Bool.or_eq_true, not_within_iff, Nat.not_lt_zero, false_or]

section RosterLoad
variable {day releaseEnd : Nat} {s : State} (taken : s.Takes inBoth)
include taken

theorem execRosterLoad_outOfRange (out : 65535 < day ∨ 86399 < releaseEnd) :
    execRosterLoad day releaseEnd s = .next (s.takeRequest ⟨0x60, .range, []⟩) :=
  congrArg Host.Outcome.next (request_refused taken (if_pos (rosterLoadTest_iff.2 out)))

variable (inRange : ¬ (65535 < day ∨ 86399 < releaseEnd))
include inRange

theorem execRosterLoad_notEmpty (notEmpty : s.roster.state ≠ .empty) :
    execRosterLoad day releaseEnd s = .next (s.takeRequest ⟨0x60, .state, []⟩) :=
  congrArg Host.Outcome.next (request_refused taken
    ((if_neg (mt rosterLoadTest_iff.1 inRange)).trans (if_pos notEmpty)))

theorem execRosterLoad_ok (empty : s.roster.state = .empty) :
    execRosterLoad day releaseEnd s = .next
      ((s.setRoster { Roster.reset with
        state := .loading, day := day, releaseEnd := releaseEnd }).takeRequest ⟨0x60, .ok, []⟩) :=
  congrArg Host.Outcome.next (request_ok taken
    ((if_neg (mt rosterLoadTest_iff.1 inRange)).trans (if_neg (not_not_intro empty))))

end RosterLoad

/-! The operands of DUTY ADD and the duty that it appends (R144, R145) -/

theorem fuelSetOf_eq_some_iff {n : Nat} {x : FuelSet} : fuelSetOf n = some x ↔ x.code = n := by
  rcases n with _ | _ | _ | n <;> cases x <;> simp [fuelSetOf, FuelSet.code]

theorem exists_fuelSetOf_iff {n : Nat} : (∃ x, fuelSetOf n = some x) ↔ n ≤ 2 := by
  rcases n with _ | _ | _ | n <;> simp [fuelSetOf]

/-- A number has a slot where a duty of the roster bears it. -/
theorem State.slotOf_isSome_iff {s : State} {number : Nat} :
    (s.slotOf number).isSome = true ↔ ∃ d ∈ s.roster.duties, d.number = number := by
  simp [State.slotOf, List.findIdx?_isSome]

/-- The range test of DUTY ADD, as its three parts read it. -/
theorem dutyAddTest_iff {number pullOut length fuelSet releaseEnd : Nat} :
    ((within 1 65535 number && within 0 86399 pullOut && decide (pullOut ≤ releaseEnd)) = true ∧
        (∃ l, lengthOf length = some l) ∧ ∃ x, fuelSetOf fuelSet = some x) ↔
      1 ≤ number ∧ number ≤ 65535 ∧ pullOut ≤ 86399 ∧ pullOut ≤ releaseEnd ∧
        length ≤ 1 ∧ fuelSet ≤ 2 := by
  rw [exists_lengthOf_iff, exists_fuelSetOf_iff, Bool.and_eq_true, Bool.and_eq_true, within_iff,
    within_iff, decide_eq_true_iff]
  omega

/-- The duty that DUTY ADD appends: the values given, OPEN, unbound and not swapped. -/
def Duty.added (number pullOut : Nat) (length : LengthClass) (fuelSet : FuelSet) : Duty where
  number := number
  pullOut := pullOut
  length := length
  fuelSet := fuelSet
  state := .opened
  bound := none
  swapped := false

/-! DUTY ADD (R145) -/

theorem exec_dutyAdd (number pullOut length fuelSet : Nat) (s : State) :
    exec (.dutyAdd number pullOut length fuelSet) s =
      execDutyAdd number pullOut length fuelSet s := rfl

section DutyAdd
variable {number pullOut length fuelSet : Nat} {s : State} (taken : s.Takes inBoth)
include taken

theorem execDutyAdd_notLoading (notLoading : s.roster.state ≠ .loading) :
    execDutyAdd number pullOut length fuelSet s =
      .next (s.takeRequest ⟨0x61, .state, []⟩) :=
  congrArg Host.Outcome.next (request_refused taken (if_pos notLoading))

variable (loading : s.roster.state = .loading)
include loading

theorem execDutyAdd_outOfRange
    (out : ¬ ((within 1 65535 number && within 0 86399 pullOut &&
        decide (pullOut ≤ s.roster.releaseEnd)) = true ∧
      (∃ l, lengthOf length = some l) ∧ ∃ x, fuelSetOf fuelSet = some x)) :
    execDutyAdd number pullOut length fuelSet s =
      .next (s.takeRequest ⟨0x61, .range, []⟩) := by
  refine congrArg Host.Outcome.next
    (request_refused taken ((if_neg (not_not_intro loading)).trans ?_))
  split
  next l x numbers hl hx => exact absurd ⟨numbers, ⟨l, hl⟩, x, hx⟩ out
  next => rfl

variable {l : LengthClass} {x : FuelSet}
  (numbers : (within 1 65535 number && within 0 86399 pullOut &&
    decide (pullOut ≤ s.roster.releaseEnd)) = true)
  (hl : lengthOf length = some l) (hx : fuelSetOf fuelSet = some x)
include numbers hl hx

theorem execDutyAdd_conflict (known : (s.slotOf number).isSome = true) :
    execDutyAdd number pullOut length fuelSet s =
      .next (s.takeRequest ⟨0x61, .conflict, []⟩) := by
  refine congrArg Host.Outcome.next
    (request_refused taken ((if_neg (not_not_intro loading)).trans ?_))
  simp only [numbers, hl, hx]
  exact if_pos known

variable (unknown : ¬ (s.slotOf number).isSome = true)
include unknown

theorem execDutyAdd_full (full : 128 ≤ s.roster.duties.length) :
    execDutyAdd number pullOut length fuelSet s =
      .next (s.takeRequest ⟨0x61, .full, []⟩) := by
  refine congrArg Host.Outcome.next
    (request_refused taken ((if_neg (not_not_intro loading)).trans ?_))
  simp only [numbers, hl, hx]
  exact (if_neg unknown).trans (if_pos full)

theorem execDutyAdd_appended (room : s.roster.duties.length < 128) :
    execDutyAdd number pullOut length fuelSet s = .next
      ((s.setDuties (s.roster.duties ++ [Duty.added number pullOut l x])).takeRequest
        ⟨0x61, .ok, [byte s.roster.duties.length]⟩) := by
  refine congrArg Host.Outcome.next
    (request_ok taken ((if_neg (not_not_intro loading)).trans ?_))
  simp only [numbers, hl, hx]
  exact (if_neg unknown).trans (if_neg (Nat.not_le.2 room))

end DutyAdd

/-! ROSTER ARM (R146) -/

theorem exec_rosterArm (s : State) : exec .rosterArm s = execRosterArm s := rfl

section RosterArm
variable {s : State} (taken : s.Takes inBoth)
include taken

theorem execRosterArm_refused (notReady : s.roster.state ≠ .loading ∨ s.clock.isSet = false) :
    execRosterArm s = .next (s.takeRequest ⟨0x62, .state, []⟩) :=
  congrArg Host.Outcome.next (request_refused taken (if_pos notReady))

variable (ready : ¬ (s.roster.state ≠ .loading ∨ s.clock.isSet = false))
include ready

theorem execRosterArm_active (sameDay : s.roster.day = s.clock.day) :
    execRosterArm s = .next ((s.setRosterState .active).takeRequest ⟨0x62, .ok, [3]⟩) :=
  congrArg Host.Outcome.next (request_ok taken ((if_neg ready).trans (if_pos sameDay)))

variable (otherDay : s.roster.day ≠ s.clock.day)
include otherDay

theorem execRosterArm_armed (dayBefore : s.roster.day = followingDay s.clock.day) :
    execRosterArm s = .next ((s.setRosterState .armed).takeRequest ⟨0x62, .ok, [2]⟩) :=
  congrArg Host.Outcome.next
    (request_ok taken ((if_neg ready).trans ((if_neg otherDay).trans (if_pos dayBefore))))

theorem execRosterArm_outOfRange (notBefore : s.roster.day ≠ followingDay s.clock.day) :
    execRosterArm s = .next (s.takeRequest ⟨0x62, .range, []⟩) :=
  congrArg Host.Outcome.next
    (request_refused taken ((if_neg ready).trans ((if_neg otherDay).trans (if_neg notBefore))))

end RosterArm

/-- The first test of ROSTER ARM passes for a LOADING roster under a set clock. -/
theorem State.readyToArm {s : State} (loading : s.roster.state = .loading)
    (isSet : s.clock.isSet = true) :
    ¬ (s.roster.state ≠ .loading ∨ s.clock.isSet = false) := by
  simp [loading, isSet]

/-- Settles O47: each clause is the lemma of its request's case, under the tests read as the rules write them. -/
theorem rosterIsLoadedAndArmed : Obligations.RosterIsLoadedAndArmed := by
  unfold Obligations.RosterIsLoadedAndArmed
  simp only [exec_rosterLoad, exec_dutyAdd, exec_rosterArm]
  intro s taken
  refine ⟨fun day releaseEnd => execRosterLoad_outOfRange taken, ?load,
    fun n p l f => ⟨execDutyAdd_notLoading taken, ?addRange, ?conflict, ?full, ?append⟩,
    execRosterArm_refused taken, ?active, ?armed, ?armRange⟩
  case load =>
    intro day releaseEnd hday hend
    have inRange : ¬ (65535 < day ∨ 86399 < releaseEnd) := by omega
    exact ⟨execRosterLoad_notEmpty taken inRange, execRosterLoad_ok taken inRange⟩
  case addRange =>
    exact fun loading out => execDutyAdd_outOfRange taken loading (mt dutyAddTest_iff.1 out)
  case conflict =>
    intro loading inRange known
    obtain ⟨numbers, ⟨_, hl⟩, _, hx⟩ := dutyAddTest_iff.2 inRange
    exact execDutyAdd_conflict taken loading numbers hl hx (State.slotOf_isSome_iff.2 known)
  case full =>
    intro loading inRange unknown
    obtain ⟨numbers, ⟨_, hl⟩, _, hx⟩ := dutyAddTest_iff.2 inRange
    exact execDutyAdd_full taken loading numbers hl hx (mt State.slotOf_isSome_iff.1 unknown)
  case append =>
    intro loading inRange unknown room
    obtain ⟨numbers, ⟨length, hl⟩, fuelSet, hx⟩ := dutyAddTest_iff.2 inRange
    exact ⟨Duty.added n p length fuelSet, rfl, rfl, lengthOf_eq_some_iff.1 hl,
      fuelSetOf_eq_some_iff.1 hx, rfl, rfl, rfl, execDutyAdd_appended taken loading numbers hl hx
        (mt State.slotOf_isSome_iff.1 unknown) room⟩
  case active =>
    exact fun loading isSet => execRosterArm_active taken (State.readyToArm loading isSet)
  case armed =>
    exact fun loading isSet => execRosterArm_armed taken (State.readyToArm loading isSet)
  case armRange =>
    exact fun loading isSet => execRosterArm_outOfRange taken (State.readyToArm loading isSet)

end Sys2Proof.Machine
end
